-- ==== Sys2Proof/Word.lean ====
section
/-! DEFINITION. The word types of the UCB-94 crypto block (00_scope R7, R9; 10_state R20). -/

namespace Sys2Proof

/-- A 32-bit register word (10_state R22). -/
abbrev Word := BitVec 32

/-- A 64-bit cipher block, `N2 || N1` (10_state R32). -/
abbrev Block := BitVec 64

/-- A 256-bit value of the hash engine (10_state R31). -/
abbrev Wide := BitVec 256

/-- A byte offset inside the 8 KiB register window: the `paddr` port (20_memory R75). -/
abbrev Offset := BitVec 13

end Sys2Proof
end

