-- ==== Sys2Proof/Syntax.lean ====
section
/-! DEFINITION. The commands of the block: one constructor per row of the opcode table
(30_encoding R83). -/

namespace Sys2Proof

/-- A command. Every operand but HASH_FINAL's byte count is implicit (30_encoding R86). -/
inductive Instr where
  /-- CIPHER_ENC, OP 0x01 (40_cipher R106). -/
  | cipherEnc
  /-- HASH_INIT, OP 0x10 (41_hash R129). -/
  | hashInit
  /-- HASH_COMPRESS, OP 0x11 (41_hash R130). -/
  | hashCompress
  /-- HASH_BLOCK, OP 0x12 (41_hash R131). -/
  | hashBlock
  /-- HASH_FINAL nb, OP 0x13, NB in bits 13:8 (41_hash R132, 30_encoding R82). -/
  | hashFinal (nb : BitVec 6)
  /-- BN_MODEXP, OP 0x20 (42_bignum R152). -/
  | bnModexp
  /-- BN_MODINV, OP 0x21 (42_bignum R154). -/
  | bnModinv
  /-- BN_MR_ROUND, OP 0x22 (42_bignum R157). -/
  | bnMrRound
  /-- BN_TRIALDIV, OP 0x23 (42_bignum R160). -/
  | bnTrialdiv
deriving DecidableEq, Repr

end Sys2Proof
end

