-- ==== Sys2Proof/WellFormed.lean ====
section
/-! DEFINITION. Which terms of `Instr` are commands of the block. -/

namespace Sys2Proof

/-- The one constraint on a command's fields: HASH_FINAL's byte count is at most 32
(30_encoding R82). -/
def Instr.wellFormed : Instr → Bool
  | .cipherEnc => true
  | .hashInit => true
  | .hashCompress => true
  | .hashBlock => true
  | .hashFinal nb => decide (nb.toNat ≤ 32)
  | .bnModexp => true
  | .bnModinv => true
  | .bnMrRound => true
  | .bnTrialdiv => true

end Sys2Proof
end

