-- ==== Sys2Proof/Decode.lean ====
section
/-! DEFINITION. Decoding and encoding of the 32-bit command word (30_encoding R80 to R87), and the
assembler's view of a command (R88). -/

namespace Sys2Proof

/-- Why a word is Illegal (30_encoding R84, R85; 60_exceptions R180). -/
inductive DecodeError where
  /-- A bit of RSV (31:14) is set. -/
  | reservedBits
  /-- OP is a value the opcode map does not list. -/
  | unassignedOpcode (op : BitVec 8)
  /-- NB of a HASH_FINAL is above 32. -/
  | byteCountAbove32 (nb : BitVec 6)
  /-- NB of a command without argument is not 0. -/
  | argumentOnCmd0 (nb : BitVec 6)
deriving DecidableEq, Repr

/-- OP, bits 7:0 (30_encoding R81). -/
def opField (c : Word) : BitVec 8 := c.extractLsb' 0 8

/-- NB, bits 13:8 (30_encoding R81, R82). -/
def nbField (c : Word) : BitVec 6 := c.extractLsb' 8 6

/-- RSV, bits 31:14 (30_encoding R81). -/
def rsvField (c : Word) : BitVec 18 := c.extractLsb' 14 18

/-- The opcode map of 30_encoding R83: the command of an OP value, given NB. -/
def opcodeMap (op : BitVec 8) (nb : BitVec 6) : Option Instr :=
  if op = 0x01#8 then some .cipherEnc
  else if op = 0x10#8 then some .hashInit
  else if op = 0x11#8 then some .hashCompress
  else if op = 0x12#8 then some .hashBlock
  else if op = 0x13#8 then some (.hashFinal nb)
  else if op = 0x20#8 then some .bnModexp
  else if op = 0x21#8 then some .bnModinv
  else if op = 0x22#8 then some .bnMrRound
  else if op = 0x23#8 then some .bnTrialdiv
  else none

/-- `decode` of 30_encoding R84, its tests in the rule's order. -/
def decode (c : Word) : Except DecodeError Instr :=
  if rsvField c ≠ 0#18 then .error .reservedBits
  else
    match opcodeMap (opField c) (nbField c) with
    | none => .error (.unassignedOpcode (opField c))
    | some i =>
      if opField c = 0x13#8 then
        if 32 < (nbField c).toNat then .error (.byteCountAbove32 (nbField c)) else .ok i
      else if nbField c ≠ 0#6 then .error (.argumentOnCmd0 (nbField c))
      else .ok i

/-- OP of a command (30_encoding R83). -/
def Instr.op : Instr → BitVec 8
  | .cipherEnc => 0x01#8
  | .hashInit => 0x10#8
  | .hashCompress => 0x11#8
  | .hashBlock => 0x12#8
  | .hashFinal _ => 0x13#8
  | .bnModexp => 0x20#8
  | .bnModinv => 0x21#8
  | .bnMrRound => 0x22#8
  | .bnTrialdiv => 0x23#8

/-- NB of a command: the argument of HASH_FINAL, and 0 for a CMD0 command (30_encoding R80). -/
def Instr.nb : Instr → BitVec 6
  | .cipherEnc => 0#6
  | .hashInit => 0#6
  | .hashCompress => 0#6
  | .hashBlock => 0#6
  | .hashFinal nb => nb
  | .bnModexp => 0#6
  | .bnModinv => 0#6
  | .bnMrRound => 0#6
  | .bnTrialdiv => 0#6

/-- The word of a command: RSV = 0, then NB, then OP (30_encoding R81, R87). -/
def encode (i : Instr) : Word := (0#18 ++ i.nb) ++ i.op

/-- The host's question to the decoder: the word `w`, of `nbits` bits, as the bus presents it. A
command is one 32-bit transfer, so there is no byte stream to lay out (30_encoding R80, 20_memory
R68(d), log entry 12). -/
def decodeTableWord (nbits w : Nat) : Option Instr :=
  let v := w % 2 ^ nbits
  if v < 2 ^ 32 then
    match decode (BitVec.ofNat 32 v) with
    | .ok i => some i
    | .error _ => none
  else none

/-- One row of the opcode table: the words `c` with `c &&& mask = value` (30_encoding R84). -/
structure OpcodeRow where
  mnemonic : String
  mask : Word
  value : Word
deriving DecidableEq, Repr

/-- The opcode table, row by row (30_encoding R84, `opcode_table.json`). -/
def opcodeTable : List OpcodeRow :=
  [ ⟨"CIPHER_ENC", 0xFFFFFFFF#32, 0x00000001#32⟩,
    ⟨"HASH_INIT", 0xFFFFFFFF#32, 0x00000010#32⟩,
    ⟨"HASH_COMPRESS", 0xFFFFFFFF#32, 0x00000011#32⟩,
    ⟨"HASH_BLOCK", 0xFFFFFFFF#32, 0x00000012#32⟩,
    ⟨"HASH_FINAL", 0xFFFFC0FF#32, 0x00000013#32⟩,
    ⟨"BN_MODEXP", 0xFFFFFFFF#32, 0x00000020#32⟩,
    ⟨"BN_MODINV", 0xFFFFFFFF#32, 0x00000021#32⟩,
    ⟨"BN_MR_ROUND", 0xFFFFFFFF#32, 0x00000022#32⟩,
    ⟨"BN_TRIALDIV", 0xFFFFFFFF#32, 0x00000023#32⟩ ]

/-- A row claims a word: mask and value, and NB ≤ 32 on the HASH_FINAL row (30_encoding R84). -/
def OpcodeRow.claims (r : OpcodeRow) (c : Word) : Bool :=
  decide (c &&& r.mask = r.value) &&
    (r.mnemonic != "HASH_FINAL" || decide ((nbField c).toNat ≤ 32))

/-- The mnemonic of a command (30_encoding R83). -/
def Instr.mnemonic : Instr → String
  | .cipherEnc => "CIPHER_ENC"
  | .hashInit => "HASH_INIT"
  | .hashCompress => "HASH_COMPRESS"
  | .hashBlock => "HASH_BLOCK"
  | .hashFinal _ => "HASH_FINAL"
  | .bnModexp => "BN_MODEXP"
  | .bnModinv => "BN_MODINV"
  | .bnMrRound => "BN_MR_ROUND"
  | .bnTrialdiv => "BN_TRIALDIV"

/-- The assembler of 30_encoding R88, on a mnemonic and its optional decimal operand: it refuses an
operand on any mnemonic but HASH_FINAL, a HASH_FINAL without one, and a byte count above 32. -/
def assemble (mnemonic : String) (operand : Option Nat) : Option Instr :=
  match operand with
  | some nb =>
    if mnemonic = "HASH_FINAL" ∧ nb ≤ 32 then some (.hashFinal (BitVec.ofNat 6 nb)) else none
  | none =>
    if mnemonic = "CIPHER_ENC" then some .cipherEnc
    else if mnemonic = "HASH_INIT" then some .hashInit
    else if mnemonic = "HASH_COMPRESS" then some .hashCompress
    else if mnemonic = "HASH_BLOCK" then some .hashBlock
    else if mnemonic = "BN_MODEXP" then some .bnModexp
    else if mnemonic = "BN_MODINV" then some .bnModinv
    else if mnemonic = "BN_MR_ROUND" then some .bnMrRound
    else if mnemonic = "BN_TRIALDIV" then some .bnTrialdiv
    else none

/-- The operand the assembler's text of a command carries (30_encoding R88). -/
def Instr.operand? : Instr → Option Nat
  | .cipherEnc => none
  | .hashInit => none
  | .hashCompress => none
  | .hashBlock => none
  | .hashFinal nb => some nb.toNat
  | .bnModexp => none
  | .bnModinv => none
  | .bnMrRound => none
  | .bnTrialdiv => none

end Sys2Proof
end

