-- ==== Sys2Proof/Config.lean ====
section
/-! DEFINITION. What one implementation fixes and the spec leaves open (00_scope R5), and the free
values. None of the opaque constants has a value that a proof could use. -/

namespace Sys2Proof.Config

/-- An arbitrary natural number from which the number of bignum words is made. -/
opaque bnWordsFree : Nat

/-- W/32, the number of 32-bit words of each bignum register: any value from 32 to 256
(00_scope R5, 10_state R24). Log entry 3. -/
def bnWords : Nat := bnWordsFree % 225 + 32

/-- BN_WIDTH, written W: a multiple of 32 with 1024 ≤ W ≤ 8192 (00_scope R5). -/
def bnWidth : Nat := 32 * bnWords

/-- An arbitrary natural number: which 8 KiB page of the bus the window stands on. -/
opaque ucbPage : Nat

/-- UCB_BASE, the platform's 8 KiB-aligned base address of the window (00_scope R5, 20_memory R60).
Log entry 8. -/
def ucbBase : Nat := 8192 * ucbPage

/-- The free value of a read of an output register while BUSY = 1 (20_memory R63, 93 U1): "a fresh
draw per read, under no law". What it is applied to, and so may depend on, is the model's choice: the
number of draws made so far, the offset read and the block's contents but for LCMD (log entry 5). -/
opaque busyRead (draw : Nat) (off : Offset) (contents : List Nat) : Word

/-- The draw of LAT (00_scope R5, R14; 10_state R38): whether this step of a busy engine is the
command's completion step, or one of the LAT - 1 internal ones. LAT may depend on the command and its
operands, so the draw may depend on the latched word and the block's contents, and on the number of
draws made so far (log entry 2). -/
opaque lastEngineStep (draw : Nat) (cmd : Word) (contents : List Nat) : Bool

end Sys2Proof.Config

namespace Sys2Proof

/-- The contents of a bignum register, `bits W` (10_state R20): "one non-negative integer below 2^W"
(R36). -/
abbrev BnInt := BitVec Config.bnWidth

end Sys2Proof
end

