-- ==== Sys2Proof/Machine/State.lean ====
section
/-! DEFINITION. The state of the block (10_state R20), its events, how a step can stop, and reset
(70_reset R210). Plain data throughout. -/

namespace Sys2Proof.Machine

/-- The width of a bus transfer. Only 32-bit transfers are accepted (20_memory R61). -/
inductive TransferWidth where
  | bits8
  | bits16
  | bits32
deriving DecidableEq, Repr

/-- One host transfer as the slave port sees it (20_memory R75). -/
structure Transfer where
  /-- `pwrite`: true for a write. -/
  write : Bool
  /-- How many bits the host asks for. -/
  width : TransferWidth
  /-- `paddr`: the byte offset inside the window. -/
  off : Offset
  /-- `pwdata`: the data of a write. -/
  data : Word
  /-- `pstrb`: the byte strobes of a write. -/
  strb : BitVec 4
deriving DecidableEq, Repr

/-- What can happen next at the block (00_scope R14, 70_reset R210). -/
inductive Event where
  /-- The host makes one transfer. -/
  | host (t : Transfer)
  /-- The engine takes a step. While BUSY, whether it is the completion step is drawn (10_state R38). -/
  | engine
  /-- The platform resets the block. -/
  | reset
deriving DecidableEq, Repr

/-- The error codes of a command (60_exceptions R180). -/
inductive ErrCode where
  /-- Code 1: the command word is Illegal. -/
  | illegalCmd
  /-- Code 2: an operand is out of range. -/
  | invalidParam
  /-- Code 3: the operand has no inverse. -/
  | noInverse
deriving DecidableEq, Repr

/-- How a step can fault. -/
inductive Fault where
  /-- The host made a transfer the block refuses (20_memory R61): narrow, misaligned, or a write
  without all byte strobes. Raised by the host's transfer step alone. The block itself is
  unaffected; the spec asks for a fault (60_exceptions R187, log entry 15). Safe. -/
  | busError
deriving DecidableEq, Repr

/-- How a step can be refused. -/
inductive Refusal where
  /-- A command whose meaning has not been written. No arm raises it. Safe. -/
  | notModelled (mnemonic : String)
deriving DecidableEq, Repr

/-- The architectural state of the block: the tuple of 10_state R20, "and nothing else". -/
structure ArchState where
  /-- KEY0..KEY7 (10_state R30). -/
  key : Vector Word 8
  /-- BLK_LO (10_state R32). -/
  blkLo : Word
  /-- BLK_HI (10_state R32). -/
  blkHi : Word
  /-- CT_LO (10_state R33). -/
  ctLo : Word
  /-- CT_HI (10_state R33). -/
  ctHi : Word
  /-- HM, the message block (10_state R34). -/
  hm : Wide
  /-- HH, the chaining value (10_state R34). -/
  hh : Wide
  /-- HS, the checksum (10_state R34). -/
  hs : Wide
  /-- HL, the message length in bits (10_state R34). -/
  hl : Wide
  /-- BNA (10_state R36). -/
  bna : BnInt
  /-- BNB (10_state R36). -/
  bnb : BnInt
  /-- BNM (10_state R36). -/
  bnm : BnInt
  /-- BNR (10_state R37). -/
  bnr : BnInt
  /-- STATUS.BUSY (10_state R26). -/
  busy : Bool
  /-- STATUS.DONE (10_state R26). -/
  done : Bool
  /-- STATUS.ERR (10_state R26). -/
  err : Bool
  /-- STATUS.OVERRUN (10_state R26, 60_exceptions R188). -/
  overrun : Bool
  /-- STATUS.ERRCODE (10_state R26, 60_exceptions R180). -/
  errcode : BitVec 4
  /-- STATUS.RESULT (10_state R26, R40). -/
  result : Bool
  /-- IRQ_EN.DONE_IE (10_state R27). -/
  doneIe : Bool
  /-- IRQ_PEND.DONE_IP (10_state R28). -/
  doneIp : Bool
  /-- LCMD, the latched command word, hidden from the host (10_state R38). -/
  lcmd : Word
deriving DecidableEq, Repr

/-- What the model's step runs on: the architectural state, and beside it three fields of the model's
own, which are no state of the block (log entries 1, 5 and 6). -/
structure State extends ArchState where
  /-- The model's: the `prdata` port after the last accepted read (20_memory R75, log entry 6). -/
  prdata : Word
  /-- The model's: how many free values have been drawn (log entries 2 and 5). -/
  draws : Nat
  /-- The model's: which agent moves next, oldest first (00_scope R14, log entry 1). It does not say
  how many steps a command still takes (10_state R38). -/
  schedule : List Event
deriving DecidableEq, Repr

/-- The architectural state right after reset (70_reset R210). -/
def ArchState.reset : ArchState where
  key := #v[0#32, 0#32, 0#32, 0#32, 0#32, 0#32, 0#32, 0#32]
  blkLo := 0#32
  blkHi := 0#32
  ctLo := 0#32
  ctHi := 0#32
  hm := 0#256
  hh := 0#256
  hs := 0#256
  hl := 0#256
  bna := 0#Config.bnWidth
  bnb := 0#Config.bnWidth
  bnm := 0#Config.bnWidth
  bnr := 0#Config.bnWidth
  busy := false
  done := false
  err := false
  overrun := false
  errcode := 0#4
  result := false
  doneIe := false
  doneIp := false
  lcmd := 0#32

/-- The block right after reset (70_reset R210); the model's own fields are log entries 1, 5, 6. -/
def State.reset : State where
  toArchState := ArchState.reset
  prdata := 0#32
  draws := 0
  schedule := []

end Sys2Proof.Machine
end

