-- ==== Sys2Proof/Machine/Flags.lean ====
section
/-! DEFINITION. The STATUS, IRQ_EN, IRQ_PEND, ID and FEATURES words, the error codes, and the
interrupt line (10_state R23 to R28, R41; 60_exceptions R180, R189). -/

namespace Sys2Proof.Machine

/-- STATUS: BUSY bit 0, DONE bit 1, ERR bit 2, OVERRUN bit 3, ERRCODE bits 7:4, RESULT bit 8, zeros
above (10_state R26). -/
def statusWord (s : State) : Word :=
  0#23 ++ BitVec.ofBool s.result ++ s.errcode ++ BitVec.ofBool s.overrun ++ BitVec.ofBool s.err ++
    BitVec.ofBool s.done ++ BitVec.ofBool s.busy

/-- IRQ_EN: DONE_IE in bit 0, zeros above (10_state R27). -/
def irqEnWord (s : State) : Word := 0#31 ++ BitVec.ofBool s.doneIe

/-- IRQ_PEND: DONE_IP in bit 0, zeros above (10_state R28). -/
def irqPendWord (s : State) : Word := 0#31 ++ BitVec.ofBool s.doneIp

/-- ID, a constant (10_state R23). -/
def idWord : Word := 0x55434201#32

/-- FEATURES.SBOX_ID: the GOST R 34.11-94 test parameter set (10_state R24). -/
def sboxId : BitVec 8 := 0x01#8

/-- FEATURES: BN_WORDS in 15:0, SBOX_ID in 23:16, zeros above (10_state R24). -/
def featuresWord : Word := 0#8 ++ sboxId ++ BitVec.ofNat 16 Config.bnWords

/-- STATUS.ERRCODE of an error (60_exceptions R180). -/
def ErrCode.code : ErrCode → BitVec 4
  | .illegalCmd => 1#4
  | .invalidParam => 2#4
  | .noInverse => 3#4

/-- The output `irq`: a level, combinational in the state (10_state R41, 60_exceptions R189). -/
def irq (s : State) : Bool := s.doneIp && s.doneIe

end Sys2Proof.Machine
end

