-- ==== Sys2Proof/Machine/Operands.lean ====
section
/-! DEFINITION. Words and bytes of multi-word values, and the implicit operands of the commands
(00_scope R12, 10_state R31 to R37, 30_encoding R86). -/

namespace Sys2Proof.Machine

/-- Register word `j` of a multi-word value: `V[32j+31:32j]` (00_scope R12). -/
def wordOf {w : Nat} (v : BitVec w) (j : Nat) : Word := v.extractLsb' (32 * j) 32

/-- The value with its register word `j` replaced. -/
def setWord {w : Nat} (v : BitVec w) (j : Nat) (x : Word) : BitVec w :=
  (v &&& ~~~((BitVec.allOnes 32).setWidth w <<< (32 * j))) ||| (x.setWidth w <<< (32 * j))

/-- Byte `i` of a byte string held as a little-endian value: `V[8i+7:8i]` (00_scope R12). -/
def byteOf {w : Nat} (v : BitVec w) (i : Nat) : BitVec 8 := v.extractLsb' (8 * i) 8

/-- `LE(b)`: the integer of a byte string, byte 0 least significant (00_scope R12). -/
def leNat : List (BitVec 8) → Nat
  | [] => 0
  | b :: bs => b.toNat + 256 * leNat bs

/-- `LE32(b0, b1, b2, b3)` (00_scope R12). -/
def le32 (b0 b1 b2 b3 : BitVec 8) : Word := b3 ++ b2 ++ b1 ++ b0

/-- The eight 32-bit words of a 256-bit value, word 0 first (10_state R31, 41_hash R125). -/
def wordsOf (v : Wide) : Vector Word 8 :=
  #v[wordOf v 0, wordOf v 1, wordOf v 2, wordOf v 3, wordOf v 4, wordOf v 5, wordOf v 6, wordOf v 7]

/-- The cipher's input block `BLK_HI || BLK_LO` (10_state R32). -/
def blk (s : State) : Block := s.blkHi ++ s.blkLo

/-- The cipher's output block `CT_HI || CT_LO` (10_state R33). -/
def ct (s : State) : Block := s.ctHi ++ s.ctLo

/-- Word `j` of an integer, least significant word first (10_state R36). -/
def natWord (r : Nat) (j : Nat) : Word := BitVec.ofNat 32 (r / 2 ^ (32 * j))

/-- Word `j` of a bignum window: the stored word for j < W/32, zero above (10_state R29, R36,
R37). -/
def bnWord (r : BnInt) (j : Fin 256) : Word :=
  if j.val < Config.bnWords then wordOf r j.val else 0#32

/-- A bignum register after a write to word `j` of its window: ignored at j ≥ W/32 (10_state R29,
R36). -/
def bnSetWord (r : BnInt) (j : Fin 256) (v : Word) : BnInt :=
  if j.val < Config.bnWords then setWord r j.val v else r

/-- A = value(BNA) (42_bignum R150). -/
def opA (s : State) : Nat := s.bna.toNat

/-- B = value(BNB) (42_bignum R150). -/
def opB (s : State) : Nat := s.bnb.toNat

/-- M = value(BNM) (42_bignum R150). -/
def opM (s : State) : Nat := s.bnm.toNat

/-- The whole architectural state but LCMD, as numbers: what a free value is applied to, so that it
may depend on anything that the block holds. That LCMD is left out, and the model's own fields, is the
model's choice: only the completion step reads LCMD (10_state R38; log entry 5). -/
def contents (s : State) : List Nat :=
  s.key.toList.map BitVec.toNat ++
    [s.blkLo.toNat, s.blkHi.toNat, s.ctLo.toNat, s.ctHi.toNat, s.hm.toNat, s.hh.toNat, s.hs.toNat,
      s.hl.toNat, s.bna.toNat, s.bnb.toNat, s.bnm.toNat, s.bnr.toNat] ++
    [s.busy.toNat, s.done.toNat, s.err.toNat, s.overrun.toNat, s.errcode.toNat, s.result.toNat,
      s.doneIe.toNat, s.doneIp.toNat]

end Sys2Proof.Machine
end

