-- ==== Sys2Proof/Machine/Ops.lean ====
section
/-! DEFINITION. The named operations that commands, transfers and reset share: accepting a command,
completing one with success or with an error, writing result registers, and reset. -/

namespace Sys2Proof.Machine

/-- Write the ciphertext registers (40_cipher R106). -/
def writeCt (c : Block) (s : State) : State :=
  { s with ctLo := c.extractLsb' 0 32, ctHi := c.extractLsb' 32 32 }

/-- Write the hash context: chaining value, checksum and length (41_hash R129, R131, R132). -/
def writeHash (h sg l : Wide) (s : State) : State :=
  { s with hh := h, hs := sg, hl := l }

/-- Write the bignum result, zero-extended to W bits (42_bignum R151). Every result is below 2^W, so
that no bit is lost (log entry 4). -/
def writeBnr (r : Nat) (s : State) : State := { s with bnr := BitVec.ofNat Config.bnWidth r }

/-- `finish_ok(r)`: the status part of a successful completion step (60_exceptions R182, R183,
R184). -/
def finishOk (r : Bool) (s : State) : State :=
  { s with
    result := r
    err := false
    errcode := 0#4
    done := true
    busy := false
    doneIp := true }

/-- `finish_error(c)`: an error completion, the block's only "trap entry" (60_exceptions R183, R184,
R191). It writes no data or result register. There is no return from it (R192). -/
def finishError (c : ErrCode) (s : State) : State :=
  { s with
    result := false
    err := true
    errcode := c.code
    done := true
    busy := false
    doneIp := true }

/-- `accept(v)`: command acceptance (60_exceptions R185). It never fails. -/
def accept (v : Word) (s : State) : State :=
  { s with
    lcmd := v
    busy := true
    done := false
    err := false
    errcode := 0#4
    result := false }

/-- A write that broke the busy rule: only OVERRUN changes (20_memory R65, 60_exceptions R188). -/
def setOverrun (s : State) : State := { s with overrun := true }

/-- A write of 1 to STATUS bit 3 (10_state R26). -/
def clearOverrun (s : State) : State := { s with overrun := false }

/-- A write to IRQ_EN bit 0 (10_state R27). -/
def setDoneIe (b : Bool) (s : State) : State := { s with doneIe := b }

/-- A write of 1 to IRQ_PEND bit 0 (10_state R28). -/
def clearDoneIp (s : State) : State := { s with doneIp := false }

/-- The reset step: the whole state of 10_state R20 at its reset values (70_reset R210, R212). The
schedule goes on, and free values already drawn are not drawn again (log entries 1, 5, 7). -/
def resetBlock (s : State) : State :=
  { s with toArchState := ArchState.reset, prdata := 0#32 }

/-- One free value has been drawn (log entries 2 and 5). -/
def drawn (s : State) : State := { s with draws := s.draws + 1 }

end Sys2Proof.Machine
end

