-- ==== Sys2Proof/Machine/Bus.lean ====
section
/-! DEFINITION. The register window and the host's transfers (10_state R22 to R39; 20_memory R60 to
R77). -/

namespace Sys2Proof.Machine

/-- The registers of the window (10_state R22). -/
inductive Reg where
  | id
  | features
  | cmd
  | status
  | irqEn
  | irqPend
  | key (j : Fin 8)
  | blkLo
  | blkHi
  | ctLo
  | ctHi
  | hm (j : Fin 8)
  | hh (j : Fin 8)
  | hs (j : Fin 8)
  | hl (j : Fin 8)
  | bna (j : Fin 256)
  | bnb (j : Fin 256)
  | bnm (j : Fin 256)
  | bnr (j : Fin 256)
  | reserved
deriving DecidableEq, Repr

/-- Which register stands at a word index (a byte offset divided by 4) of the window: the map of
10_state R22. -/
def regAtWord (n : Nat) : Reg :=
  if n = 0 then .id
  else if n = 1 then .features
  else if n = 2 then .cmd
  else if n = 3 then .status
  else if n = 4 then .irqEn
  else if n = 5 then .irqPend
  else if n < 0x10 then .reserved
  else if n < 0x18 then .key (Fin.ofNat 8 (n - 0x10))
  else if n = 0x18 then .blkLo
  else if n = 0x19 then .blkHi
  else if n = 0x1A then .ctLo
  else if n = 0x1B then .ctHi
  else if n < 0x20 then .reserved
  else if n < 0x28 then .hm (Fin.ofNat 8 (n - 0x20))
  else if n < 0x30 then .hh (Fin.ofNat 8 (n - 0x28))
  else if n < 0x38 then .hs (Fin.ofNat 8 (n - 0x30))
  else if n < 0x40 then .hl (Fin.ofNat 8 (n - 0x38))
  else if n < 0x400 then .reserved
  else if n < 0x500 then .bna (Fin.ofNat 256 (n - 0x400))
  else if n < 0x600 then .bnb (Fin.ofNat 256 (n - 0x500))
  else if n < 0x700 then .bnm (Fin.ofNat 256 (n - 0x600))
  else .bnr (Fin.ofNat 256 (n - 0x700))

/-- The register at a byte offset. Accepted transfers are aligned, so the low two bits are zero
(20_memory R61). -/
def regAt (off : Offset) : Reg := regAtWord (off.toNat / 4)

/-- The byte offset of a register (10_state R22, 30_encoding R88); reserved space has no one. -/
def Reg.offset? : Reg → Option Offset
  | .id => some 0x0000#13
  | .features => some 0x0004#13
  | .cmd => some 0x0008#13
  | .status => some 0x000C#13
  | .irqEn => some 0x0010#13
  | .irqPend => some 0x0014#13
  | .key j => some (BitVec.ofNat 13 (0x0040 + 4 * j.val))
  | .blkLo => some 0x0060#13
  | .blkHi => some 0x0064#13
  | .ctLo => some 0x0068#13
  | .ctHi => some 0x006C#13
  | .hm j => some (BitVec.ofNat 13 (0x0080 + 4 * j.val))
  | .hh j => some (BitVec.ofNat 13 (0x00A0 + 4 * j.val))
  | .hs j => some (BitVec.ofNat 13 (0x00C0 + 4 * j.val))
  | .hl j => some (BitVec.ofNat 13 (0x00E0 + 4 * j.val))
  | .bna j => some (BitVec.ofNat 13 (0x1000 + 4 * j.val))
  | .bnb j => some (BitVec.ofNat 13 (0x1400 + 4 * j.val))
  | .bnm j => some (BitVec.ofNat 13 (0x1800 + 4 * j.val))
  | .bnr j => some (BitVec.ofNat 13 (0x1C00 + 4 * j.val))
  | .reserved => none

/-- The output registers, whose reads while BUSY are free values (20_memory R63). -/
def Reg.isOutput : Reg → Bool
  | .ctLo => true
  | .ctHi => true
  | .hh _ => true
  | .hs _ => true
  | .hl _ => true
  | .bnr j => decide (j.val < Config.bnWords)
  | _ => false

/-- The data registers that a host writes, and that a write while BUSY does not change
(20_memory R65). -/
def Reg.isData : Reg → Bool
  | .key _ => true
  | .blkLo => true
  | .blkHi => true
  | .hm _ => true
  | .hh _ => true
  | .hs _ => true
  | .hl _ => true
  | .bna j => decide (j.val < Config.bnWords)
  | .bnb j => decide (j.val < Config.bnWords)
  | .bnm j => decide (j.val < Config.bnWords)
  | _ => false

/-- What a register's access type gives a read (10_state R22 to R39). -/
def regValue (r : Reg) (s : State) : Word :=
  match r with
  | .id => idWord
  | .features => featuresWord
  | .cmd => 0#32
  | .status => statusWord s
  | .irqEn => irqEnWord s
  | .irqPend => irqPendWord s
  | .key j => s.key[j]
  | .blkLo => s.blkLo
  | .blkHi => s.blkHi
  | .ctLo => s.ctLo
  | .ctHi => s.ctHi
  | .hm j => wordOf s.hm j.val
  | .hh j => wordOf s.hh j.val
  | .hs j => wordOf s.hs j.val
  | .hl j => wordOf s.hl j.val
  | .bna j => bnWord s.bna j
  | .bnb j => bnWord s.bnb j
  | .bnm j => bnWord s.bnm j
  | .bnr j => bnWord s.bnr j
  | .reserved => 0#32

/-- A read of the register at `off` is a free draw: an output register while BUSY (20_memory
R63). -/
def readIsFree (off : Offset) (s : State) : Bool := s.busy && (regAt off).isOutput

/-- `BusRead(off)`: the value read (20_memory R63). -/
def readData (off : Offset) (s : State) : Word :=
  if readIsFree off s then Config.busyRead s.draws off (contents s) else regValue (regAt off) s

/-- The step of an accepted read. It has no side effect on the block (20_memory R66): the model
records the data on the port, and that a free value was drawn. -/
def busRead (off : Offset) (s : State) : State :=
  { s with
    prdata := readData off s
    draws := if readIsFree off s then s.draws + 1 else s.draws }

/-- A write of an idle block's data register (20_memory R64); other registers are unchanged. -/
def writeData (r : Reg) (v : Word) (s : State) : State :=
  match r with
  | .key j => { s with key := s.key.set j v }
  | .blkLo => { s with blkLo := v }
  | .blkHi => { s with blkHi := v }
  | .hm j => { s with hm := setWord s.hm j.val v }
  | .hh j => { s with hh := setWord s.hh j.val v }
  | .hs j => { s with hs := setWord s.hs j.val v }
  | .hl j => { s with hl := setWord s.hl j.val v }
  | .bna j => { s with bna := bnSetWord s.bna j v }
  | .bnb j => { s with bnb := bnSetWord s.bnb j v }
  | .bnm j => { s with bnm := bnSetWord s.bnm j v }
  | _ => s

/-- A write to one register of the window: `BusWrite` of 20_memory R64 and R65, its tests in the
rule's order. -/
def writeReg (r : Reg) (v : Word) (s : State) : State :=
  match r with
  | .status => if v[3] then clearOverrun s else s
  | .irqEn => setDoneIe v[0] s
  | .irqPend => if v[0] then clearDoneIp s else s
  | .cmd => if s.busy then setOverrun s else accept v s
  | r =>
    if r.isData then (if s.busy then setOverrun s else writeData r v s)
    else s

/-- `BusWrite(off, v)` of an accepted transfer (20_memory R64, R65). -/
def busWrite (off : Offset) (v : Word) (s : State) : State := writeReg (regAt off) v s

/-- The block accepts a transfer: 32 bits wide, aligned, and with all strobes on a write (20_memory
R61, R75); the strobes of a read are ignored (DEDUCED, log entry 10). -/
def accepted (t : Transfer) : Bool :=
  decide (t.width = .bits32) && decide (t.off.toNat % 4 = 0) &&
    (!t.write || decide (t.strb = 0b1111#4))

/-- The output `pslverr` during a transfer (20_memory R75, R77). -/
def pslverr (t : Transfer) : Bool := !accepted t

/-- The output `pready`: the block never stalls the bus (20_memory R75, R76). -/
def pready : Bool := true

/-- One host transfer: atomic (20_memory R62), a fault when refused (60_exceptions R187,
log entry 15). -/
def transfer (t : Transfer) (s : State) : Host.Outcome State Fault Refusal :=
  if accepted t then
    .next (if t.write then busWrite t.off t.data s else busRead t.off s)
  else .fault .busError

/-- The transfer of the abbreviation `BusRead(off)` (00_scope R10). -/
def Transfer.read (off : Offset) : Transfer :=
  { write := false, width := .bits32, off := off, data := 0#32, strb := 0#4 }

/-- The transfer of the abbreviation `BusWrite(off, v)` (00_scope R10). -/
def Transfer.writeWord (off : Offset) (v : Word) : Transfer :=
  { write := true, width := .bits32, off := off, data := v, strb := 0b1111#4 }

/-- The offset inside the window of a platform bus address, for `MemRead(UCB_BASE + off, 4)` and
`MemWrite(UCB_BASE + off, 4, v)` (00_scope R10, 20_memory R60); other addresses do not select the
block (log entry 8). -/
def windowOffset? (addr : Nat) : Option Offset :=
  if Config.ucbBase ≤ addr ∧ addr < Config.ucbBase + 0x2000 then
    some (BitVec.ofNat 13 (addr - Config.ucbBase))
  else none

end Sys2Proof.Machine
end

