-- ==== Sys2Proof/Machine/Cipher.lean ====
section
/-! DEFINITION. The block cipher engine (40_cipher). -/

namespace Sys2Proof.Machine

/-- The S-box table: row t-1 is S-box Kt, column i the 4-bit input i (40_cipher R101). -/
def sboxTable : List (List (BitVec 4)) :=
  [ [4, 10, 9, 2, 13, 8, 0, 14, 6, 11, 1, 12, 7, 15, 5, 3],
    [14, 11, 4, 12, 6, 13, 15, 10, 2, 3, 8, 1, 0, 7, 5, 9],
    [5, 8, 1, 13, 10, 3, 4, 2, 14, 15, 12, 7, 6, 0, 9, 11],
    [7, 13, 10, 1, 0, 8, 9, 15, 14, 4, 6, 12, 11, 2, 5, 3],
    [6, 12, 7, 1, 5, 15, 13, 8, 4, 10, 9, 14, 0, 3, 11, 2],
    [4, 11, 10, 0, 7, 2, 1, 13, 3, 6, 8, 5, 9, 12, 15, 14],
    [13, 11, 4, 1, 3, 15, 5, 9, 0, 10, 14, 7, 6, 8, 2, 12],
    [1, 15, 13, 0, 5, 7, 10, 4, 9, 2, 3, 14, 6, 11, 8, 12] ]

/-- `SBOX[K(i+1)][x]` (40_cipher R101, R102). -/
def sbox (i : Nat) (x : BitVec 4) : BitVec 4 := (sboxTable.getD i []).getD x.toNat 0#4

/-- The substituted nibble `i` of `t` (40_cipher R102). -/
def substNibble (t : Word) (i : Nat) : BitVec 4 := sbox i (t.extractLsb' (4 * i) 4)

/-- `Subst(t)`: S-box K1 on bits 3:0, ..., K8 on bits 31:28 (40_cipher R102). -/
def subst (t : Word) : Word :=
  substNibble t 7 ++ substNibble t 6 ++ substNibble t 5 ++ substNibble t 4 ++
    substNibble t 3 ++ substNibble t 2 ++ substNibble t 1 ++ substNibble t 0

/-- The round function `F(x, k)` (40_cipher R102). -/
def roundF (x k : Word) : Word := (subst (x + k)).rotateLeft 11

/-- The number, from 1 to 8, of the round key of round `r`, from 1 to 32 (40_cipher R103). -/
def kidx (r : Nat) : Nat := if r ≤ 24 then (r - 1) % 8 + 1 else 33 - r

/-- Round key `k_t`, t from 1 to 8 (40_cipher R100). -/
def roundKey (k : Vector Word 8) (t : Nat) : Word := k.toList.getD (t - 1) 0#32

/-- Round `r` on the halves (N1, N2): every round but the last swaps (40_cipher R104). -/
def feistelRound (k : Vector Word 8) (n : Word × Word) (r : Nat) : Word × Word :=
  let t := n.2 ^^^ roundF n.1 (roundKey k (kidx r))
  if r < 32 then (t, n.1) else (n.1, t)

/-- The halves (N1, N2) after the rounds 1 to `r` (40_cipher R105). -/
def feistelRounds (k : Vector Word 8) (b : Block) (r : Nat) : Word × Word :=
  (List.range' 1 r).foldl (feistelRound k) (b.extractLsb' 0 32, b.extractLsb' 32 32)

/-- The cipher function `E(K, B)` (40_cipher R105). -/
def encrypt (k : Vector Word 8) (b : Block) : Block :=
  let n := feistelRounds k b 32
  n.2 ++ n.1

/-- CIPHER_ENC (40_cipher R106). -/
def execCipherEnc (s : State) : Host.Outcome State Fault Refusal :=
  .next (finishOk false (writeCt (encrypt s.key (blk s)) s))

end Sys2Proof.Machine
end

