-- ==== Sys2Proof/Machine/Hash.lean ====
section
/-! DEFINITION. The hash compression engine (41_hash). -/

namespace Sys2Proof.Machine

/-- The A-transform: `(y1 ⊕ y2) || y4 || y3 || y2` (41_hash R120). -/
def transformA (y : Wide) : Wide :=
  (y.extractLsb' 0 64 ^^^ y.extractLsb' 64 64) ++ y.extractLsb' 64 192

/-- The P-transform: byte `i + 4k` of the result is byte `8i + k` of `y`, for i in 0..3 and k in
0..7 (41_hash R121). Byte j of the result thus has i = j mod 4 and k = j / 4. -/
def transformP (y : Wide) : Wide :=
  (List.range 32).foldl
    (fun acc j => acc ||| ((byteOf y (8 * (j % 4) + j / 4)).setWidth 256 <<< (8 * j))) 0#256

/-- 16-bit word `i` of a 256-bit value (41_hash, conventions). -/
def half (y : Wide) (i : Nat) : BitVec 16 := y.extractLsb' (16 * i) 16

/-- ψ: the sixteen 16-bit words move down one place and their feedback enters on top (41_hash
R122). -/
def psi (y : Wide) : Wide :=
  (half y 0 ^^^ half y 1 ^^^ half y 2 ^^^ half y 3 ^^^ half y 12 ^^^ half y 15) ++
    y.extractLsb' 16 240

/-- ψ^n (41_hash R122). -/
def psiIter : Nat → Wide → Wide
  | 0, y => y
  | n + 1, y => psi (psiIter n y)

/-- The constants C2, C3, C4 of the key schedule: only C3 is not zero (41_hash R123). -/
def keyConst (j : Nat) : Wide :=
  if j = 3 then 0xFF00FFFF000000FFFF0000FF00FFFF0000FF00FF00FF00FFFF00FF00FF00FF00#256 else 0#256

/-- The pair (U, V) of the key schedule when it makes key `K(n+1)` (41_hash R124). -/
def keyState (h m : Wide) : Nat → Wide × Wide
  | 0 => (h, m)
  | n + 1 =>
    let p := keyState h m n
    (transformA p.1 ^^^ keyConst (n + 2), transformA (transformA p.2))

/-- Key `Kj` of the compression step, j from 1 to 4 (41_hash R124). -/
def subKey (h m : Wide) (j : Nat) : Wide :=
  let p := keyState h m (j - 1)
  transformP (p.1 ^^^ p.2)

/-- `s_i = E(words(Ki), h_i)`, i from 1 to 4 (41_hash R125, R126). -/
def encSlice (h m : Wide) (i : Nat) : Block :=
  encrypt (wordsOf (subKey h m i)) (h.extractLsb' (64 * (i - 1)) 64)

/-- `S = s4 || s3 || s2 || s1` (41_hash R126). -/
def encSlices (h m : Wide) : Wide :=
  encSlice h m 4 ++ encSlice h m 3 ++ encSlice h m 2 ++ encSlice h m 1

/-- The compression step `f(H, M)` (41_hash R127, R128). -/
def compress (h m : Wide) : Wide :=
  psiIter 61 (h ^^^ psi (m ^^^ psiIter 12 (encSlices h m)))

/-- The low `nb` bytes of HM, zero-padded on the right: `x[HM] mod 2^(8·nb)` (41_hash R132). -/
def lowBytes (m : Wide) (nb : Nat) : Wide := BitVec.ofNat 256 (m.toNat % 2 ^ (8 * nb))

/-- (H, Σ, L) after the last, partial block of `nb` bytes; no block when nb = 0 (41_hash R132). -/
def absorbLast (h sg l m : Wide) (nb : Nat) : Wide × Wide × Wide :=
  if 0 < nb then
    (compress h (lowBytes m nb), sg + lowBytes m nb, l + BitVec.ofNat 256 (8 * nb))
  else (h, sg, l)

/-- The length block and then the checksum block (41_hash R132). -/
def finalSteps (h sg l : Wide) : Wide := compress (compress h l) sg

/-- HASH_INIT (41_hash R129). -/
def execHashInit (s : State) : Host.Outcome State Fault Refusal :=
  .next (finishOk false (writeHash 0#256 0#256 0#256 s))

/-- HASH_COMPRESS (41_hash R130). -/
def execHashCompress (s : State) : Host.Outcome State Fault Refusal :=
  .next (finishOk false (writeHash (compress s.hh s.hm) s.hs s.hl s))

/-- HASH_BLOCK (41_hash R131). -/
def execHashBlock (s : State) : Host.Outcome State Fault Refusal :=
  .next (finishOk false (writeHash (compress s.hh s.hm) (s.hs + s.hm) (s.hl + 256#256) s))

/-- HASH_FINAL nb (41_hash R132). A byte count above 32, which no legal word carries, ends in
ILLEGAL_CMD as the rule says of the word (DEDUCED, log entry 11). -/
def execHashFinal (nb : BitVec 6) (s : State) : Host.Outcome State Fault Refusal :=
  if nb.toNat ≤ 32 then
    let c := absorbLast s.hh s.hs s.hl s.hm nb.toNat
    .next (finishOk false (writeHash (finalSteps c.1 c.2.1 c.2.2) c.2.1 c.2.2 s))
  else .next (finishError .illegalCmd s)

end Sys2Proof.Machine
end

