-- ==== Sys2Proof/Machine/Dispatch.lean ====
section
/-! DEFINITION. The completion step of each legal command (60_exceptions R183, `run`). -/

namespace Sys2Proof.Machine

/-- The completion step of a command: one arm per row of the opcode table. -/
def exec (i : Instr) (s : State) : Host.Outcome State Fault Refusal :=
  match i with
  | .cipherEnc => Sys2Proof.Machine.execCipherEnc s
  | .hashInit => Sys2Proof.Machine.execHashInit s
  | .hashCompress => Sys2Proof.Machine.execHashCompress s
  | .hashBlock => Sys2Proof.Machine.execHashBlock s
  | .hashFinal nb => Sys2Proof.Machine.execHashFinal nb s
  | .bnModexp => Sys2Proof.Machine.execBnModexp s
  | .bnModinv => Sys2Proof.Machine.execBnModinv s
  | .bnMrRound => Sys2Proof.Machine.execBnMrRound s
  | .bnTrialdiv => Sys2Proof.Machine.execBnTrialdiv s

end Sys2Proof.Machine
end

