-- ==== Sys2Proof/Machine/Engine.lean ====
section
/-! DEFINITION. The engine's completion step, and what each event does (00_scope R14; 60_exceptions
R182, R183; 70_reset R210). -/

namespace Sys2Proof.Machine

/-- `complete_step()`: decode LCMD and run it; an Illegal word completes with ILLEGAL_CMD
(60_exceptions R183, 30_encoding R84). -/
def completeStep (s : State) : Host.Outcome State Fault Refusal :=
  match decode s.lcmd with
  | .error _ => .next (finishError .illegalCmd s)
  | .ok i => exec i s

/-- The engine's completion step if a command is in progress; an idle engine does nothing
(00_scope R14, 60_exceptions R200). -/
def engineStep (s : State) : Host.Outcome State Fault Refusal :=
  if s.busy then completeStep s else .next s

/-- Whether the next step of a busy engine is its completion step: a free draw (00_scope R14,
10_state R38; log entry 2). -/
def lastEngineStep (s : State) : Bool := Config.lastEngineStep s.draws s.lcmd (contents s)

/-- A scheduled step of the engine: the completion step or an internal one without visible effect, as
drawn; an idle engine does nothing (00_scope R14; 60_exceptions R182, R200). -/
def engineMove (s : State) : Host.Outcome State Fault Refusal :=
  if s.busy then
    if lastEngineStep s then completeStep (drawn s) else .next (drawn s)
  else .next s

/-- What an event does to the block. -/
def perform (e : Event) (s : State) : Host.Outcome State Fault Refusal :=
  match e with
  | .host t => transfer t s
  | .engine => engineMove s
  | .reset => .next (resetBlock s)

/-- A command word placed in LCMD and in progress, as its acceptance leaves it (60_exceptions R185),
with nothing else scheduled, so that the engine completes it next: log entry 9. -/
def placeCommand (v : Word) (s : State) : State := { accept v s with schedule := [] }

end Sys2Proof.Machine
end

