-- ==== Sys2Proof/Machine/Step.lean ====
section
/-! DEFINITION. One step of the block: the next event of the schedule, or, when nothing is
scheduled, the engine (00_scope R14, log entries 1 and 2). -/

namespace Sys2Proof.Machine

/-- One step (00_scope R14). -/
def step (s : State) : Host.Outcome State Fault Refusal :=
  match s.schedule with
  | [] => engineStep s
  | e :: rest => perform e { s with schedule := rest }

/-- The instruction word `w` of `nbits` bits stored where the next step takes it from: in LCMD, with
BUSY = 1 (log entry 9). -/
def State.withFetchWord (s : State) (nbits w : Nat) : State :=
  placeCommand (BitVec.ofNat 32 (w % 2 ^ nbits)) s

end Sys2Proof.Machine
end

