-- ==== Sys2Proof/Machine/HostProgram.lean ====
section
/-! DEFINITION. The host-side notation and the host's procedures (30_encoding R89; 41_hash R134;
70_reset R214). They are not part of the block: this file stands beside `State`, and `step` does not
use it (log entry 14). -/

namespace Sys2Proof.Machine

/-- A statement of the host notation (30_encoding R89). -/
inductive HostOp where
  /-- `L:` -/
  | label (l : Nat)
  /-- `WR off, v` -/
  | wr (off : Offset) (v : Word)
  /-- `RD t, off` -/
  | rd (t : Fin 8) (off : Offset)
  /-- `BIT t, n, L` -/
  | bit (t : Fin 8) (n : Fin 32) (l : Nat)
  /-- `NBIT t, n, L` -/
  | nbit (t : Fin 8) (n : Fin 32) (l : Nat)
  /-- `HALT` -/
  | halt
deriving DecidableEq, Repr

/-- A host running a program against the block: its scratch registers t0..t7, every value it read
(oldest first), and the block. -/
structure HostRun where
  program : List HostOp
  line : Nat
  halted : Bool
  t : Vector Word 8
  reads : List Word
  block : State
deriving DecidableEq, Repr

/-- A host about to run a program against a block. That its scratch registers start at 0 is the
model's choice, because 30_encoding R89 gives them no value (DESIGN CHOICE, log entry 14). -/
def HostRun.start (program : List HostOp) (block : State) : HostRun :=
  { program := program, line := 0, halted := false, t := Vector.replicate 8 0#32, reads := [],
    block := block }

/-- The line of a label. -/
def labelLine (program : List HostOp) (l : Nat) : Option Nat :=
  program.findIdx? (fun o => decide (o = HostOp.label l))

/-- Continue at a label; a label the program does not have ends it. -/
def HostRun.goto (h : HostRun) (l : Nat) : HostRun :=
  match labelLine h.program l with
  | some n => { h with line := n }
  | none => { h with halted := true }

/-- Deliver one transfer to the block and go on with what the host makes of the block's state. -/
def HostRun.deliver (h : HostRun) (t : Transfer) (k : State → HostRun) :
    Host.Outcome HostRun Fault Refusal :=
  match transfer t h.block with
  | .next b => .next (k b)
  | .fault f => .fault f
  | .refused r => .refused r

/-- One move of the host (30_encoding R89). -/
def HostRun.hostMove (h : HostRun) : Host.Outcome HostRun Fault Refusal :=
  if h.halted then .next h
  else
    match h.program[h.line]? with
    | none => .next { h with halted := true }
    | some .halt => .next { h with halted := true }
    | some (.label _) => .next { h with line := h.line + 1 }
    | some (.wr off v) =>
      h.deliver (.writeWord off v) (fun b => { h with line := h.line + 1, block := b })
    | some (.rd t off) =>
      h.deliver (.read off) (fun b =>
        { h with
          line := h.line + 1
          t := h.t.set t b.prdata
          reads := h.reads ++ [b.prdata]
          block := b })
    | some (.bit t n l) =>
      .next (if h.t[t].getLsbD n then h.goto l else { h with line := h.line + 1 })
    | some (.nbit t n l) =>
      .next (if h.t[t].getLsbD n then { h with line := h.line + 1 } else h.goto l)

/-- One move of the block under the host: the engine's, or whatever its schedule holds. -/
def HostRun.blockMove (h : HostRun) : Host.Outcome HostRun Fault Refusal :=
  match step h.block with
  | .next b => .next { h with block := b }
  | .fault f => .fault f
  | .refused r => .refused r

/-- A run: `true` lets the host move, `false` the block. Any interleaving is one (00_scope R14). -/
def HostRun.run : List Bool → HostRun → Host.Outcome HostRun Fault Refusal
  | [], h => .next h
  | m :: ms, h =>
    match (if m then h.hostMove else h.blockMove) with
    | .next h' => HostRun.run ms h'
    | .fault f => .fault f
    | .refused r => .refused r

/-! ### Pseudo-instructions (30_encoding R89) -/

/-- Offsets of 10_state R22 that the notation names. -/
def offId : Offset := 0x0000#13
def offFeatures : Offset := 0x0004#13
def offCmd : Offset := 0x0008#13
def offStatus : Offset := 0x000C#13
def offIrqEn : Offset := 0x0010#13
def offIrqPend : Offset := 0x0014#13
def offHm : Offset := 0x0080#13
def offHh : Offset := 0x00A0#13

/-- Word `j` of the group at `base`. -/
def wordOffset (base : Offset) (j : Nat) : Offset := base + BitVec.ofNat 13 (4 * j)

/-- `CMD m`. -/
def hostCmd (i : Instr) : List HostOp := [.wr offCmd (encode i)]

/-- `POLL`, with its fresh label: wait until BUSY = 0. -/
def hostPoll (l : Nat) : List HostOp := [.label l, .rd 0 offStatus, .bit 0 0 l]

/-- `EXEC m`. -/
def hostExec (i : Instr) (l : Nat) : List HostOp := hostCmd i ++ hostPoll l

/-- `WR256 G, V`. -/
def hostWr256 (base : Offset) (v : Wide) : List HostOp :=
  (List.range 8).map (fun j => .wr (wordOffset base j) (wordOf v j))

/-- `WRBN X, V`: all W/32 words. -/
def hostWrBn (base : Offset) (v : Nat) : List HostOp :=
  (List.range Config.bnWords).map (fun j => .wr (wordOffset base j) (natWord v j))

/-- `RD256 G`: eight reads through t1; the host collects them in `reads`. -/
def hostRd256 (base : Offset) : List HostOp :=
  (List.range 8).map (fun j => .rd 1 (wordOffset base j))

/-- `RDBN X`: W/32 reads. -/
def hostRdBn (base : Offset) : List HostOp :=
  (List.range Config.bnWords).map (fun j => .rd 1 (wordOffset base j))

/-! ### Procedures -/

/-- The driver's boot sequence, its four steps without the host's own checks (70_reset R214). -/
def bootProgram : List HostOp :=
  [.rd 0 offId, .rd 1 offFeatures, .wr offIrqEn 1#32, .wr offStatus 8#32, .wr offIrqPend 1#32]

/-- Up to 32 bytes of a message from byte `start` on, as a block, with zeros past the end
(20_memory R69). -/
def messageBlock (m : List (BitVec 8)) (start : Nat) : Wide :=
  BitVec.ofNat 256 (leNat ((m.drop start).take 32))

/-- The host's procedure to hash a byte string (41_hash R134), all full blocks by HASH_BLOCK. -/
def hashProgram (m : List (BitVec 8)) : List HostOp :=
  hostExec .hashInit 0 ++
    (List.range (m.length / 32)).flatMap (fun b =>
      hostWr256 offHm (messageBlock m (32 * b)) ++ hostExec .hashBlock (b + 1)) ++
    hostWr256 offHm (messageBlock m (32 * (m.length / 32))) ++
    hostExec (.hashFinal (BitVec.ofNat 6 (m.length % 32))) (m.length / 32 + 1) ++
    hostRd256 offHh ++ [.halt]

/-- Absorb `n` full blocks of a message from block `b` on: (H, Σ, L) (41_hash R131). -/
def absorbBlocks (m : List (BitVec 8)) : Nat → Nat → Wide × Wide × Wide → Wide × Wide × Wide
  | 0, _, c => c
  | n + 1, b, c =>
    let x := messageBlock m (32 * b)
    absorbBlocks m n (b + 1) (compress c.1 x, c.2.1 + x, c.2.2 + 256#256)

/-- Hash94 of a byte string, as the commands of `hashProgram` compute it (41_hash R134). -/
def hash94 (m : List (BitVec 8)) : Wide :=
  let c := absorbBlocks m (m.length / 32) 0 (0#256, 0#256, 0#256)
  let d := absorbLast c.1 c.2.1 c.2.2 (messageBlock m (32 * (m.length / 32))) (m.length % 32)
  finalSteps d.1 d.2.1 d.2.2

/-- The blocks of a message from block `b` on, each loaded into HM and absorbed by HASH_BLOCK. -/
def absorbRun (m : List (BitVec 8)) : Nat → Nat → State → Host.Outcome State Fault Refusal
  | 0, _, s => .next s
  | n + 1, b, s =>
    match exec .hashBlock { s with hm := messageBlock m (32 * b) } with
    | .next t => absorbRun m n (b + 1) t
    | .fault f => .fault f
    | .refused r => .refused r

/-- The commands of 41_hash R134 one after another: HASH_INIT, `n` blocks by HASH_BLOCK, and
HASH_FINAL `nb` with `last` in HM. -/
def hashRun (m : List (BitVec 8)) (n : Nat) (nb : BitVec 6) (last : Wide) (s : State) :
    Host.Outcome State Fault Refusal :=
  match exec .hashInit s with
  | .next t =>
    match absorbRun m n 0 t with
    | .next u => exec (.hashFinal nb) { u with hm := last }
    | .fault f => .fault f
    | .refused r => .refused r
  | .fault f => .fault f
  | .refused r => .refused r

/-- The digest bytes d[0..31], in byte order (41_hash R133). -/
def digestBytes (h : Wide) : List (BitVec 8) := (List.range 32).map (byteOf h)

end Sys2Proof.Machine
end

