-- ==== Sys2Proof/Safety.lean ====
section
/-! DEFINITION. What counts as a legal state and a safe step, in the terms the statements use. -/

namespace Sys2Proof.Machine

/-- The combinations of STATUS that "any read" may see (10_state R26). -/
def LegalStatus (s : State) : Prop :=
  (s.busy = true → s.done = false ∧ s.err = false ∧ s.errcode = 0#4 ∧ s.result = false) ∧
  (s.err = true → s.done = true ∧ (s.errcode = 1#4 ∨ s.errcode = 2#4 ∨ s.errcode = 3#4)) ∧
  (s.err = false → s.errcode = 0#4)

/-- RESULT is 1 only after a successful BN_MR_ROUND or BN_TRIALDIV, the command that LCMD still
holds: 0 "after every other command and after every error" (10_state R26, R40). -/
def LegalResult (s : State) : Prop :=
  s.result = true → s.done = true ∧ s.err = false ∧
    (decode s.lcmd = .ok .bnMrRound ∨ decode s.lcmd = .ok .bnTrialdiv)

/-- The invariant of the block. -/
def Inv (s : State) : Prop := LegalStatus s ∧ LegalResult s

/-- Two states hold the same data registers: KEY, BLK, CT, HM, HH, HS, HL, BNA, BNB, BNM, BNR. -/
def SameData (s t : State) : Prop :=
  t.key = s.key ∧ t.blkLo = s.blkLo ∧ t.blkHi = s.blkHi ∧ t.ctLo = s.ctLo ∧ t.ctHi = s.ctHi ∧
  t.hm = s.hm ∧ t.hh = s.hh ∧ t.hs = s.hs ∧ t.hl = s.hl ∧
  t.bna = s.bna ∧ t.bnb = s.bnb ∧ t.bnm = s.bnm ∧ t.bnr = s.bnr

/-- Two states agree on everything that the spec calls state (10_state R20). -/
def SameBlock (s t : State) : Prop := t.toArchState = s.toArchState

/-- What every command leaves alone at its completion: OVERRUN, DONE_IE and LCMD (10_state R26;
60_exceptions R182, R183), and the model's own fields (the model's choice: log entries 1, 5, 6). -/
def SameRest (s t : State) : Prop :=
  t.overrun = s.overrun ∧ t.doneIe = s.doneIe ∧ t.lcmd = s.lcmd ∧ t.prdata = s.prdata ∧
    t.draws = s.draws ∧ t.schedule = s.schedule

/-- The status part of a successful completion with `complete(r)` (60_exceptions R182, R184). -/
def CompletedOk (r : Bool) (s t : State) : Prop :=
  t.result = r ∧ t.err = false ∧ t.errcode = 0#4 ∧ t.done = true ∧ t.busy = false ∧
    t.doneIp = true ∧ SameRest s t

/-- The status part of an error completion with code `c` (60_exceptions R183, R184). -/
def CompletedErr (c : BitVec 4) (s t : State) : Prop :=
  t.result = false ∧ t.err = true ∧ t.errcode = c ∧ t.done = true ∧ t.busy = false ∧
    t.doneIp = true ∧ SameRest s t

/-- The input registers: no command writes them (30_encoding R86). -/
def SameInputs (s t : State) : Prop :=
  t.key = s.key ∧ t.blkLo = s.blkLo ∧ t.blkHi = s.blkHi ∧ t.hm = s.hm ∧
    t.bna = s.bna ∧ t.bnb = s.bnb ∧ t.bnm = s.bnm

/-- The cipher's output registers are unchanged. -/
def SameCt (s t : State) : Prop := t.ctLo = s.ctLo ∧ t.ctHi = s.ctHi

/-- The hash context is unchanged. -/
def SameHash (s t : State) : Prop := t.hh = s.hh ∧ t.hs = s.hs ∧ t.hl = s.hl

/-- A command and its word (30_encoding R87). -/
def CommandWord (i : Instr) (w : Word) : Prop := encode i = w ∧ decode w = .ok i

/-- Two states agree on what a command reads (30_encoding R86). -/
def AgreeOnReads (i : Instr) (s s' : State) : Prop :=
  match i with
  | .cipherEnc => s'.key = s.key ∧ s'.blkLo = s.blkLo ∧ s'.blkHi = s.blkHi
  | .hashInit => True
  | .hashCompress => s'.hh = s.hh ∧ s'.hm = s.hm
  | .hashBlock => SameHash s s' ∧ s'.hm = s.hm
  | .hashFinal _ => SameHash s s' ∧ s'.hm = s.hm
  | .bnModexp => s'.bna = s.bna ∧ s'.bnb = s.bnb ∧ s'.bnm = s.bnm
  | .bnModinv => s'.bna = s.bna ∧ s'.bnm = s.bnm
  | .bnMrRound => s'.bna = s.bna ∧ s'.bnm = s.bnm
  | .bnTrialdiv => s'.bnm = s.bnm

/-- Two states agree on what a command writes on success, besides STATUS (30_encoding R86). -/
def AgreeOnWrites (i : Instr) (t t' : State) : Prop :=
  match i with
  | .cipherEnc => SameCt t t'
  | .hashInit => SameHash t t'
  | .hashCompress => t'.hh = t.hh
  | .hashBlock => SameHash t t'
  | .hashFinal _ => SameHash t t'
  | .bnModexp => t'.bnr = t.bnr
  | .bnModinv => t'.bnr = t.bnr
  | .bnMrRound => True
  | .bnTrialdiv => t'.bnr = t.bnr

/-- A command's completion leaves every data register it does not write as it was (30_encoding
R86). -/
def KeepsOthers (i : Instr) (s t : State) : Prop :=
  SameInputs s t ∧
  match i with
  | .cipherEnc => SameHash s t ∧ t.bnr = s.bnr
  | .hashInit => SameCt s t ∧ t.bnr = s.bnr
  | .hashCompress => SameCt s t ∧ t.bnr = s.bnr ∧ t.hs = s.hs ∧ t.hl = s.hl
  | .hashBlock => SameCt s t ∧ t.bnr = s.bnr
  | .hashFinal _ => SameCt s t ∧ t.bnr = s.bnr
  | .bnModexp => SameCt s t ∧ SameHash s t
  | .bnModinv => SameCt s t ∧ SameHash s t
  | .bnMrRound => SameCt s t ∧ SameHash s t ∧ t.bnr = s.bnr
  | .bnTrialdiv => SameCt s t ∧ SameHash s t

/-- `k` steps, stopping at the first fault or refusal. -/
def runSteps : Nat → State → Host.Outcome State Fault Refusal
  | 0, s => .next s
  | k + 1, s =>
    match step s with
    | .next t => runSteps k t
    | .fault f => .fault f
    | .refused r => .refused r

/-- An event that neither resets the block nor is refused. -/
def Harmless (e : Event) : Prop :=
  e = .engine ∨ ∃ t, e = .host t ∧ accepted t = true

/-- A register that ignores every write: read-only, reserved, or a bignum word that does not exist
(10_state R29, R39). -/
def IgnoresWrites (r : Reg) : Prop :=
  r = .id ∨ r = .features ∨ r = .ctLo ∨ r = .ctHi ∨ r = .reserved ∨ (∃ j, r = .bnr j) ∨
    ∃ j : Fin 256, Config.bnWords ≤ j.val ∧ (r = .bna j ∨ r = .bnb j ∨ r = .bnm j)

/-- No transfer still scheduled is one the block refuses: the premise "no bus fault" of
60_exceptions R187. -/
def NoBusFault (s : State) : Prop :=
  ∀ e ∈ s.schedule, ∀ t, e = Event.host t → accepted t = true

end Sys2Proof.Machine
end

