-- ==== Sys2Proof/Certificates/Slice0/Obligations.lean ====
section
/-! DEFINITION. The statements for the provers. Each docstring names the rule of the spec it
formalises; a statement that rests on a choice of the model says so. -/

open Sys2Proof Sys2Proof.Machine

/-! ### The command word (30_encoding) -/

/-- 30_encoding R81, R83, R84: decoding an encoded well-formed command gives it back. -/
def Obligations.DecodeOfEncodeIsIdentity : Prop :=
  ∀ i : Instr, i.wellFormed = true → decode (encode i) = .ok i

/-- 30_encoding R81, R84: a legal word is the encoding of exactly the command it decodes to, and that
command is well formed. -/
def Obligations.LegalWordIsItsCommandsEncoding : Prop :=
  ∀ (w : Word) (i : Instr), decode w = .ok i → i.wellFormed = true ∧ encode i = w

/-- 30_encoding R84: which words are Illegal, that the opcode table decides the same, and that an
Illegal word ends in ILLEGAL_CMD with no other effect. -/
def Obligations.DecodingFollowsTheOpcodeTable : Prop :=
  ∀ w : Word,
    ((∃ e, decode w = .error e) ↔
      rsvField w ≠ 0#18 ∨
      opField w ∉ [0x01#8, 0x10#8, 0x11#8, 0x12#8, 0x13#8, 0x20#8, 0x21#8, 0x22#8, 0x23#8] ∨
      (opField w = 0x13#8 ∧ 32 < (nbField w).toNat) ∨
      (opField w ≠ 0x13#8 ∧ (nbField w).toNat ≠ 0)) ∧
    (∀ i, decode w = .ok i → i.op = opField w ∧ i.nb = nbField w ∧
      ∃ r ∈ opcodeTable, r.claims w = true ∧ r.mnemonic = i.mnemonic) ∧
    (∀ e, decode w = .error e →
      (∀ r ∈ opcodeTable, r.claims w = false) ∧
      ∀ s : State, s.lcmd = w →
        ∃ t, completeStep s = .next t ∧ CompletedErr 1#4 s t ∧ SameData s t)

/-- 30_encoding R83, R84: no word is claimed by two rows of the opcode table. -/
def Obligations.OpcodeRowsDoNotOverlap : Prop :=
  ∀ (w : Word), ∀ r ∈ opcodeTable, ∀ r' ∈ opcodeTable,
    r.claims w = true → r'.claims w = true → r = r'

/-- 30_encoding R87: the words of the table, and the general form of HASH_FINAL. -/
def Obligations.EncodedWordsAreTheTables : Prop :=
  CommandWord .cipherEnc 0x00000001#32 ∧
  CommandWord .hashInit 0x00000010#32 ∧
  CommandWord .hashCompress 0x00000011#32 ∧
  CommandWord .hashBlock 0x00000012#32 ∧
  CommandWord (.hashFinal 0#6) 0x00000013#32 ∧
  CommandWord (.hashFinal 3#6) 0x00000313#32 ∧
  CommandWord (.hashFinal 18#6) 0x00001213#32 ∧
  CommandWord (.hashFinal 32#6) 0x00002013#32 ∧
  CommandWord .bnModexp 0x00000020#32 ∧
  CommandWord .bnModinv 0x00000021#32 ∧
  CommandWord .bnMrRound 0x00000022#32 ∧
  CommandWord .bnTrialdiv 0x00000023#32 ∧
  ∀ nb : BitVec 6, encode (.hashFinal nb) = 0x13#32 ||| (nb.setWidth 32 <<< 8)

/-! ### The register window (10_state, 20_memory) -/

/-- 10_state R22: each row of the register map at its offsets, and the map is one to one between
registers and aligned offsets. -/
def Obligations.RegisterMapIsOneToOne : Prop :=
  (regAt 0x0000#13 = .id ∧ regAt 0x0004#13 = .features ∧ regAt 0x0008#13 = .cmd ∧
    regAt 0x000C#13 = .status ∧ regAt 0x0010#13 = .irqEn ∧ regAt 0x0014#13 = .irqPend ∧
    regAt 0x0060#13 = .blkLo ∧ regAt 0x0064#13 = .blkHi ∧
    regAt 0x0068#13 = .ctLo ∧ regAt 0x006C#13 = .ctHi) ∧
  (∀ j : Fin 8,
    regAt (BitVec.ofNat 13 (0x0040 + 4 * j.val)) = .key j ∧
    regAt (BitVec.ofNat 13 (0x0080 + 4 * j.val)) = .hm j ∧
    regAt (BitVec.ofNat 13 (0x00A0 + 4 * j.val)) = .hh j ∧
    regAt (BitVec.ofNat 13 (0x00C0 + 4 * j.val)) = .hs j ∧
    regAt (BitVec.ofNat 13 (0x00E0 + 4 * j.val)) = .hl j) ∧
  (∀ j : Fin 256,
    regAt (BitVec.ofNat 13 (0x1000 + 4 * j.val)) = .bna j ∧
    regAt (BitVec.ofNat 13 (0x1400 + 4 * j.val)) = .bnb j ∧
    regAt (BitVec.ofNat 13 (0x1800 + 4 * j.val)) = .bnm j ∧
    regAt (BitVec.ofNat 13 (0x1C00 + 4 * j.val)) = .bnr j) ∧
  (∀ off : Offset, off.toNat % 4 = 0 →
    (regAt off = .reserved ↔
      (0x0018 ≤ off.toNat ∧ off.toNat ≤ 0x003C) ∨ (0x0070 ≤ off.toNat ∧ off.toNat ≤ 0x007C) ∨
      (0x0100 ≤ off.toNat ∧ off.toNat ≤ 0x0FFC))) ∧
  (∀ (r : Reg) (off : Offset), r.offset? = some off → off.toNat % 4 = 0 ∧ regAt off = r) ∧
  (∀ off : Offset, off.toNat % 4 = 0 → regAt off ≠ .reserved → (regAt off).offset? = some off)

/-- 10_state R23, R24: ID and FEATURES read as their constants at all times, and ignore writes. -/
def Obligations.IdentityRegistersAreConstant : Prop :=
  (∀ s : State, readData 0x0000#13 s = 0x55434201#32) ∧
  (∀ s : State, ∃ w, readData 0x0004#13 s = w ∧
    32 * (w.extractLsb' 0 16).toNat = Config.bnWidth ∧
    32 ≤ (w.extractLsb' 0 16).toNat ∧ (w.extractLsb' 0 16).toNat ≤ 256 ∧
    w.extractLsb' 16 8 = 0x01#8 ∧ w.extractLsb' 24 8 = 0x00#8) ∧
  (∀ (s : State) (v : Word), transfer (.writeWord 0x0000#13 v) s = .next s) ∧
  (∀ (s : State) (v : Word), transfer (.writeWord 0x0004#13 v) s = .next s)

/-- 10_state R26: the bits of STATUS, and that a write to STATUS changes only OVERRUN, and only by a
1 in bit 3, busy or not. -/
def Obligations.StatusRegisterFields : Prop :=
  (∀ s : State, ∃ w, readData 0x000C#13 s = w ∧
    w[0] = s.busy ∧ w[1] = s.done ∧ w[2] = s.err ∧ w[3] = s.overrun ∧
    w.extractLsb' 4 4 = s.errcode ∧ w[8] = s.result ∧ w.extractLsb' 9 23 = 0#23) ∧
  (∀ (s : State) (v : Word), v[3] = true →
    transfer (.writeWord 0x000C#13 v) s = .next { s with overrun := false }) ∧
  (∀ (s : State) (v : Word), v[3] = false → transfer (.writeWord 0x000C#13 v) s = .next s)

/-- 10_state R29: reserved offsets and the bignum words that do not exist read 0, and they and the
read-only registers ignore writes without OVERRUN or bus error, busy or not. -/
def Obligations.ReservedReadsZeroAndWritesAreIgnored : Prop :=
  (∀ (s : State) (off : Offset), off.toNat % 4 = 0 →
    (regAt off = .reserved ∨ ∃ j : Fin 256, Config.bnWords ≤ j.val ∧
      (regAt off = .bna j ∨ regAt off = .bnb j ∨ regAt off = .bnm j ∨ regAt off = .bnr j)) →
    ∃ t, transfer (.read off) s = .next t ∧ t.prdata = 0#32 ∧ SameBlock s t) ∧
  (∀ (s : State) (off : Offset) (v : Word), off.toNat % 4 = 0 → IgnoresWrites (regAt off) →
    transfer (.writeWord off v) s = .next s)

/-- 10_state R31, 20_memory R68(b): a 256-bit group is the concatenation of its eight words, word 0
lowest, and word j holds the little-endian bytes 4j to 4j+3. -/
def Obligations.GroupIsItsEightWords : Prop :=
  (∀ v : Wide, v = wordOf v 7 ++ wordOf v 6 ++ wordOf v 5 ++ wordOf v 4 ++
    wordOf v 3 ++ wordOf v 2 ++ wordOf v 1 ++ wordOf v 0) ∧
  (∀ (v : Wide) (j : Nat), j < 8 → wordOf v j = v.extractLsb' (32 * j) 32 ∧
    wordOf v j = le32 (byteOf v (4 * j)) (byteOf v (4 * j + 1)) (byteOf v (4 * j + 2))
      (byteOf v (4 * j + 3))) ∧
  (∀ (s : State) (j : Fin 8),
    regValue (regAt (0x0080#13 + BitVec.ofNat 13 (4 * j.val))) s = wordOf s.hm j.val ∧
    regValue (regAt (0x00A0#13 + BitVec.ofNat 13 (4 * j.val))) s = wordOf s.hh j.val ∧
    regValue (regAt (0x00C0#13 + BitVec.ofNat 13 (4 * j.val))) s = wordOf s.hs j.val ∧
    regValue (regAt (0x00E0#13 + BitVec.ofNat 13 (4 * j.val))) s = wordOf s.hl j.val)

/-- 10_state R35, R31; 20_memory R64: on an idle block the host's eight writes of a value's words, at
the offsets of a hash group, restore the group, whatever it held, and change nothing else; so a saved
context can be written back. -/
def Obligations.EightWordWritesRestoreAGroup : Prop :=
  ∀ (s : State) (v : Wide), s.busy = false →
    (List.finRange 8).foldl
      (fun u j => busWrite (BitVec.ofNat 13 (0x0080 + 4 * j.val)) (wordOf v j.val) u) s
      = { s with hm := v } ∧
    (List.finRange 8).foldl
      (fun u j => busWrite (BitVec.ofNat 13 (0x00A0 + 4 * j.val)) (wordOf v j.val) u) s
      = { s with hh := v } ∧
    (List.finRange 8).foldl
      (fun u j => busWrite (BitVec.ofNat 13 (0x00C0 + 4 * j.val)) (wordOf v j.val) u) s
      = { s with hs := v } ∧
    (List.finRange 8).foldl
      (fun u j => busWrite (BitVec.ofNat 13 (0x00E0 + 4 * j.val)) (wordOf v j.val) u) s
      = { s with hl := v }

/-- 10_state R36, R37: a bignum register's integer is the sum of its W/32 words, least significant
first; its window shows those words, and 0 from word W/32 on; and the windows of BNA, BNB, BNM and BNR
show the registers that the commands read as A, B and M and write as the result. -/
def Obligations.BignumIsTheSumOfItsWords : Prop :=
  (∀ r : BnInt,
    r.toNat = ∑ j ∈ Finset.range Config.bnWords, (wordOf r j).toNat * 2 ^ (32 * j)) ∧
  (∀ (r : BnInt) (j : Fin 256),
    (j.val < Config.bnWords → bnWord r j = wordOf r j.val) ∧
    (Config.bnWords ≤ j.val → bnWord r j = 0#32)) ∧
  (∀ (s : State) (j : Fin 256),
    regValue (regAt (BitVec.ofNat 13 (0x1000 + 4 * j.val))) s = bnWord s.bna j ∧
    regValue (regAt (BitVec.ofNat 13 (0x1400 + 4 * j.val))) s = bnWord s.bnb j ∧
    regValue (regAt (BitVec.ofNat 13 (0x1800 + 4 * j.val))) s = bnWord s.bnm j ∧
    regValue (regAt (BitVec.ofNat 13 (0x1C00 + 4 * j.val))) s = bnWord s.bnr j)

/-- 20_memory R61, R75, R77; 60_exceptions R187: a transfer is accepted exactly when it is 32 bits
wide, aligned and (on a write) fully strobed; an accepted one steps without error in every state, and
any other is a bus error that stops the host's step. That the strobes of a read are ignored is the
model's reading of R61 and R75 (DEDUCED, log entry 10), and that a schedule holds the transfer is the
model's choice (log entry 1). -/
def Obligations.TransfersAreAcceptedOrRefused : Prop :=
  (∀ t : Transfer, accepted t = true ↔
    t.width = .bits32 ∧ t.off.toNat % 4 = 0 ∧ (t.write = true → t.strb = 0b1111#4)) ∧
  (∀ t : Transfer, pslverr t = true ↔ accepted t = false) ∧
  (∀ (s : State) (t : Transfer) (rest : List Event), s.schedule = .host t :: rest →
    accepted t = true → ∃ s', step s = .next s' ∧ s'.schedule = rest) ∧
  (∀ (s : State) (t : Transfer) (rest : List Event), s.schedule = .host t :: rest →
    accepted t = false → step s = .fault .busError)

/-- 20_memory R63; 10_state R30, R32, R33: a read gives the register's value, except of an output
register while BUSY, where it gives the free value of this draw; no read changes the block. KEY, BLK
and CT show the registers that CIPHER_ENC reads and writes. The form of the free value and the counter
of draws are the model's choice (log entry 5), and so is the port field (log entry 6). -/
def Obligations.ReadGivesTheRegistersValue : Prop :=
  (∀ (s : State) (j : Fin 8),
    regValue (regAt (BitVec.ofNat 13 (0x0040 + 4 * j.val))) s = s.key[j]) ∧
  (∀ s : State,
    regValue (regAt 0x0060#13) s = s.blkLo ∧ regValue (regAt 0x0064#13) s = s.blkHi ∧
    regValue (regAt 0x0068#13) s = s.ctLo ∧ regValue (regAt 0x006C#13) s = s.ctHi) ∧
  ∀ (s : State) (off : Offset), off.toNat % 4 = 0 →
    ∃ t, transfer (.read off) s = .next t ∧ SameBlock s t ∧ t.schedule = s.schedule ∧
      ((s.busy = false ∨ (regAt off).isOutput = false) →
        t.prdata = regValue (regAt off) s ∧ t.draws = s.draws) ∧
      (s.busy = true → (regAt off).isOutput = true →
        t.prdata = Config.busyRead s.draws off (contents s) ∧ t.draws = s.draws + 1)

/-- 20_memory R66: reads have no side effects and repeat; writes to RW registers and W1C bits are
idempotent; a write to CMD is not, each accepted one starts a command. -/
def Obligations.ReadsAndWritesRepeat : Prop :=
  (∀ (s : State) (off : Offset), SameBlock s (busRead off s)) ∧
  (∀ (s : State) (off : Offset), readIsFree off s = false →
    ∀ off', readData off (busRead off' s) = readData off s) ∧
  (∀ (s : State) (off : Offset) (v : Word), off.toNat % 4 = 0 → regAt off ≠ .cmd →
    busWrite off v (busWrite off v s) = busWrite off v s) ∧
  (∀ (s : State) (v : Word), s.busy = false →
    (busWrite 0x0008#13 v s).busy = true ∧ (busWrite 0x0008#13 v s).lcmd = v ∧
    (s.overrun = false →
      busWrite 0x0008#13 v (busWrite 0x0008#13 v s) ≠ busWrite 0x0008#13 v s))

/-- 20_memory R64: what a write does while the block is idle. A data register stores the value, so
that the next read of its offset returns it, and every other offset reads as before. -/
def Obligations.IdleWriteStoresOrActs : Prop :=
  ∀ (s : State) (off : Offset) (v : Word), off.toNat % 4 = 0 → s.busy = false →
    ((regAt off).isData = true →
      ∃ t, transfer (.writeWord off v) s = .next t ∧ readData off t = v ∧
        (∀ off' : Offset, off'.toNat % 4 = 0 → off' ≠ off → readData off' t = readData off' s) ∧
        t.lcmd = s.lcmd) ∧
    (IgnoresWrites (regAt off) → transfer (.writeWord off v) s = .next s) ∧
    (regAt off = .status → transfer (.writeWord off v) s
      = .next (if v[3] = true then { s with overrun := false } else s)) ∧
    (regAt off = .irqEn → transfer (.writeWord off v) s = .next { s with doneIe := v[0] }) ∧
    (regAt off = .irqPend → transfer (.writeWord off v) s
      = .next (if v[0] = true then { s with doneIp := false } else s)) ∧
    (regAt off = .cmd → transfer (.writeWord off v) s = .next (accept v s))

/-- 20_memory R65: what a write does while BUSY. CMD and the data registers are not written and
OVERRUN is set; the status registers take the write; the others ignore it. -/
def Obligations.BusyWriteIsDroppedWithOverrun : Prop :=
  ∀ (s : State) (off : Offset) (v : Word), off.toNat % 4 = 0 → s.busy = true →
    ((regAt off = .cmd ∨ (regAt off).isData = true) →
      transfer (.writeWord off v) s = .next { s with overrun := true }) ∧
    (IgnoresWrites (regAt off) → transfer (.writeWord off v) s = .next s) ∧
    (regAt off = .status → transfer (.writeWord off v) s
      = .next (if v[3] = true then { s with overrun := false } else s)) ∧
    (regAt off = .irqEn → transfer (.writeWord off v) s = .next { s with doneIe := v[0] }) ∧
    (regAt off = .irqPend → transfer (.writeWord off v) s
      = .next (if v[0] = true then { s with doneIp := false } else s))

/-! ### Acceptance, completion, interrupt, reset (60_exceptions, 70_reset) -/

/-- 60_exceptions R185: what accepting a command does, that it never fails, that an illegal word is
accepted too and completes with ILLEGAL_CMD, and that a write while BUSY is no acceptance. -/
def Obligations.CommandAcceptance : Prop :=
  (∀ (s : State) (v : Word), s.busy = false →
    transfer (.writeWord 0x0008#13 v) s = .next
      { s with lcmd := v, busy := true, done := false, err := false, errcode := 0#4,
               result := false }) ∧
  (∀ (s : State) (v : Word) (e : DecodeError), decode v = .error e →
    ∃ t, completeStep (accept v s) = .next t ∧ t.err = true ∧ t.errcode = 1#4) ∧
  (∀ (s : State) (v : Word), s.busy = true →
    transfer (.writeWord 0x0008#13 v) s = .next { s with overrun := true })

/-- 00_scope R14, 60_exceptions R183: at a busy block whose LCMD decodes to a command the engine's
completion step is that command; a scheduled engine step is that one or an internal one, as drawn; and
a step uses up the event it takes. The step after `withFetchWord` is the command's, in every state.
The schedule, the draw and what `withFetchWord` sets are the model's choices (log entries 1, 2 and
9). -/
def Obligations.StepRunsTheDecodedCommand : Prop :=
  (∀ (s : State) (i : Instr), decode s.lcmd = .ok i → s.busy = true →
    i.wellFormed = true ∧
    (s.schedule = [] → step s = exec i s) ∧
    (∀ rest, s.schedule = .engine :: rest →
      step s = if lastEngineStep { s with schedule := rest } = true
        then exec i { s with schedule := rest, draws := s.draws + 1 }
        else .next { s with schedule := rest, draws := s.draws + 1 })) ∧
  (∀ (s t : State) (e : Event) (rest : List Event), s.schedule = e :: rest → step s = .next t →
    t.schedule = rest) ∧
  (∀ (s : State) (nbits w : Nat) (i : Instr), decodeTableWord nbits w = some i →
    step (s.withFetchWord nbits w) =
      exec i { accept (BitVec.ofNat 32 (w % 2 ^ nbits)) s with schedule := [] })

/-- 60_exceptions R183: an error completion writes no data register and sets the status bits
together. -/
def Obligations.ErrorsArePrecise : Prop :=
  ∀ s t : State, completeStep s = .next t → t.err = true →
    SameData s t ∧ (t.errcode = 1#4 ∨ t.errcode = 2#4 ∨ t.errcode = 3#4) ∧
      CompletedErr t.errcode s t

/-- 60_exceptions R181: the six commands that raise no error of their own. -/
def Obligations.SixCommandsNeverFail : Prop :=
  ∀ (i : Instr) (s : State), i.wellFormed = true →
    i ≠ .bnModexp → i ≠ .bnModinv → i ≠ .bnMrRound →
    ∃ t, exec i s = .next t ∧ t.err = false ∧ t.errcode = 0#4

/-- 10_state R28, 60_exceptions R184: every completion sets DONE_IP; nothing else sets it; only a 1
written to IRQ_PEND bit 0, or reset, clears it; IRQ_PEND reads it in bit 0. -/
def Obligations.DonePendingIsSetByCompletionOnly : Prop :=
  (∀ s : State, ∃ t, completeStep s = .next t ∧ t.doneIp = true) ∧
  (∀ s t : State, step s = .next t → s.doneIp = false → t.doneIp = true →
    s.busy = true ∧ t.busy = false ∧ t.done = true) ∧
  (∀ s t : State, step s = .next t → s.doneIp = true → t.doneIp = false →
    (∃ tr rest, s.schedule = .host tr :: rest ∧ accepted tr = true ∧ tr.write = true ∧
      regAt tr.off = .irqPend ∧ tr.data[0] = true) ∨ ∃ rest, s.schedule = .reset :: rest) ∧
  (∀ s : State, readData 0x0014#13 s = if s.doneIp = true then 1#32 else 0#32) ∧
  (∀ (s : State) (v : Word), transfer (.writeWord 0x0014#13 v) s
    = .next (if v[0] = true then { s with doneIp := false } else s))

/-- 10_state R27, R41; 60_exceptions R189: the interrupt line, its enable and its mask. -/
def Obligations.InterruptLineIsPendingAndEnabled : Prop :=
  (∀ s : State, irq s = true ↔ s.doneIp = true ∧ s.doneIe = true) ∧
  (∀ s : State, readData 0x0010#13 s = if s.doneIe = true then 1#32 else 0#32) ∧
  (∀ (s : State) (v : Word), transfer (.writeWord 0x0010#13 v) s
    = .next { s with doneIe := v[0] }) ∧
  (∀ (s : State) (v : Word), s.doneIp = true → v[0] = true →
    ∃ t, transfer (.writeWord 0x0010#13 v) s = .next t ∧ irq t = true) ∧
  (∀ (s : State) (v : Word), v[0] = false →
    ∃ t, transfer (.writeWord 0x0010#13 v) s = .next t ∧ irq t = false ∧ t.doneIp = s.doneIp) ∧
  (∀ (s : State) (v : Word), v[0] = true →
    ∃ t, transfer (.writeWord 0x0014#13 v) s = .next t ∧ irq t = false) ∧
  (∀ (s : State) (v : Word), (accept v s).doneIp = s.doneIp) ∧
  (∀ s : State, ∃ t, completeStep s = .next t ∧ t.doneIp = true)

/-- 10_state R26, 60_exceptions R188: OVERRUN is set only by a write to CMD or a data register while
BUSY, and cleared only by a 1 written to STATUS bit 3, or reset. -/
def Obligations.OverrunIsSticky : Prop :=
  (∀ s t : State, step s = .next t → s.overrun = false → t.overrun = true →
    s.busy = true ∧ ∃ tr rest, s.schedule = .host tr :: rest ∧ accepted tr = true ∧
      tr.write = true ∧ (regAt tr.off = .cmd ∨ (regAt tr.off).isData = true)) ∧
  (∀ s t : State, step s = .next t → s.overrun = true → t.overrun = false →
    (∃ tr rest, s.schedule = .host tr :: rest ∧ accepted tr = true ∧ tr.write = true ∧
      regAt tr.off = .status ∧ tr.data[3] = true) ∨ ∃ rest, s.schedule = .reset :: rest)

/-- 10_state R26, R40: the legal STATUS combinations are kept by every step, and so is the meaning of
RESULT: 1 only after a successful BN_MR_ROUND or BN_TRIALDIV. -/
def Obligations.StepKeepsTheInvariant : Prop :=
  ∀ s t : State, Inv s → step s = .next t → Inv t

/-- 70_reset R210: the state after reset satisfies the invariant. -/
def Obligations.ResetSatisfiesTheInvariant : Prop := Inv State.reset

/-- 10_state R33, R37; 20_memory R67: the read-only result registers change only in the completion
step of a command that writes them, or at reset. -/
def Obligations.ResultsChangeOnlyAtCompletion : Prop :=
  ∀ s t : State, step s = .next t → (∀ rest, s.schedule ≠ .reset :: rest) →
    (¬ SameCt s t → s.busy = true ∧ t.busy = false ∧ decode s.lcmd = .ok .cipherEnc) ∧
    (t.bnr ≠ s.bnr → s.busy = true ∧ t.busy = false ∧
      (decode s.lcmd = .ok .bnModexp ∨ decode s.lcmd = .ok .bnModinv ∨
        decode s.lcmd = .ok .bnTrialdiv))

/-- 20_memory R65, R67: while a command stays in progress no step changes a data register, the
latched command, or the status of the command. -/
def Obligations.DataIsStableWhileBusy : Prop :=
  ∀ s t : State, step s = .next t → s.busy = true → t.busy = true →
    SameData s t ∧ t.lcmd = s.lcmd ∧ t.done = s.done ∧ t.err = s.err ∧ t.errcode = s.errcode ∧
      t.result = s.result

/-- 60_exceptions R182, 70_reset R224, 10_state R20: a command's results do not depend on how many
internal steps it takes, nor on what the host does meanwhile: the command stays in progress, with its
operands, through all of the scheduled events or through the first k of them, the next one being its
completion. And what a transfer, a completion step or a reset makes of the tuple of R20 depends on
that tuple alone, not on the model's own fields. That events stand in a schedule, and that the
completion is drawn, are the model's choices (log entries 1, 2). -/
def Obligations.ResultsIndependentOfLatencyAndTraffic : Prop :=
  (∀ (es rest : List Event) (s : State), s.busy = true → s.schedule = es ++ rest →
    (∀ e ∈ es, Harmless e) →
    ∃ k u t t', k ≤ es.length ∧ runSteps k s = .next u ∧ u.schedule = es.drop k ++ rest ∧
      u.busy = true ∧
      SameData s u ∧ u.lcmd = s.lcmd ∧
      (k = es.length ∨ ∃ v, step u = .next v ∧ v.busy = false ∧ SameBlock v t') ∧
      completeStep s = .next t ∧ completeStep u = .next t' ∧ SameData t t' ∧
      t'.result = t.result ∧ t'.err = t.err ∧ t'.errcode = t.errcode) ∧
  (∀ (tr : Transfer) (s s' : State), SameBlock s s' →
    (transfer tr s = .fault .busError ∧ transfer tr s' = .fault .busError) ∨
    ∃ t t', transfer tr s = .next t ∧ transfer tr s' = .next t' ∧ SameBlock t t') ∧
  (∀ s s' : State, SameBlock s s' →
    ∃ t t', completeStep s = .next t ∧ completeStep s' = .next t' ∧ SameBlock t t') ∧
  (∀ s s' : State, SameBlock (resetBlock s) (resetBlock s'))

/-- 70_reset R225: a command in progress completes, whatever accepted transfers and internal steps
the schedule holds, unless a reset intervenes. That the engine completes once the schedule is
exhausted is the model's choice (log entry 2). -/
def Obligations.EveryCommandCompletes : Prop :=
  ∀ s : State, s.busy = true → NoBusFault s → (∀ e ∈ s.schedule, e ≠ .reset) →
    ∃ k t, 1 ≤ k ∧ k ≤ s.schedule.length + 1 ∧ runSteps k s = .next t ∧
      t.busy = false ∧ t.done = true ∧ t.doneIp = true

/-- 70_reset R210, R212: a reset, in any state and also while a command runs, leaves every element
of the state at its reset value. -/
def Obligations.ResetSetsTheWholeState : Prop :=
  ∀ (s : State) (rest : List Event), s.schedule = .reset :: rest →
    ∃ t, step s = .next t ∧
      (∀ j : Fin 8, t.key[j] = 0#32) ∧ t.blkLo = 0#32 ∧ t.blkHi = 0#32 ∧ t.ctLo = 0#32 ∧
      t.ctHi = 0#32 ∧ t.hm = 0#256 ∧ t.hh = 0#256 ∧ t.hs = 0#256 ∧ t.hl = 0#256 ∧
      t.bna.toNat = 0 ∧ t.bnb.toNat = 0 ∧ t.bnm.toNat = 0 ∧ t.bnr.toNat = 0 ∧
      t.busy = false ∧ t.done = false ∧ t.err = false ∧ t.overrun = false ∧ t.result = false ∧
      t.errcode = 0#4 ∧ t.doneIe = false ∧ t.doneIp = false ∧ t.lcmd = 0#32 ∧
      irq t = false ∧
      readData 0x0000#13 t = 0x55434201#32 ∧ readData 0x0004#13 t = featuresWord ∧
      (∀ off : Offset, off.toNat % 4 = 0 → 8 ≤ off.toNat → readData off t = 0#32)

/-! ### Which registers a command reads and writes (30_encoding R86) -/

/-- 30_encoding R86: a successful command writes only its results, and its results depend only on
its operands. -/
def Obligations.CommandsUseTheirImplicitOperands : Prop :=
  ∀ (i : Instr) (s s' : State), i.wellFormed = true → AgreeOnReads i s s' →
    ∃ t t', exec i s = .next t ∧ exec i s' = .next t' ∧
      t'.result = t.result ∧ t'.err = t.err ∧ t'.errcode = t.errcode ∧
      (t.err = false → AgreeOnWrites i t t') ∧
      KeepsOthers i s t ∧ t.done = true ∧ t.busy = false ∧ t.doneIp = true ∧ SameRest s t

/-! ### The cipher engine (40_cipher) -/

/-- 40_cipher R101: every S-box row is a permutation of 0..15. -/
def Obligations.SboxRowsArePermutations : Prop :=
  sboxTable.length = 8 ∧ ∀ i : Fin 8, (sboxTable.getD i.val []).length = 16 ∧
    ∀ x y : BitVec 4, sbox i.val x = sbox i.val y → x = y

/-- 40_cipher R102: S-box K(i+1) substitutes nibble i, and F rotates the substituted sum left by
11. -/
def Obligations.SubstitutionActsNibbleByNibble : Prop :=
  (∀ (t : Word) (i : Nat), i < 8 →
    (subst t).extractLsb' (4 * i) 4 = sbox i (t.extractLsb' (4 * i) 4)) ∧
  (∀ x k : Word, roundF x k =
    (subst (x + k) <<< 11) ||| (subst (x + k) >>> 21)) ∧
  subst 0#32 = 0x1D4675E4#32 ∧ roundF 0#32 0#32 = 0x33AF20EA#32

/-- 40_cipher R100, R104: for each key the cipher, a Feistel network, is a bijection on blocks. -/
def Obligations.EncryptionIsBijective : Prop :=
  ∀ k : Vector Word 8, Function.Bijective (encrypt k)

/-- 40_cipher R105, R107: the worked examples, with the round trace, and that reversed keys do not
decrypt. -/
def Obligations.CipherWorkedExamples : Prop :=
  let z : Vector Word 8 := #v[0, 0, 0, 0, 0, 0, 0, 0]
  let kc : Vector Word 8 := #v[0x01234567, 0x89ABCDEF, 0xFEDCBA98, 0x76543210, 0x00112233,
    0x44556677, 0x8899AABB, 0xCCDDEEFF]
  let kr : Vector Word 8 := #v[0xCCDDEEFF, 0x8899AABB, 0x44556677, 0x00112233, 0x76543210,
    0xFEDCBA98, 0x89ABCDEF, 0x01234567]
  encrypt z 0#64 = 0x12610BE2A6C2FDC9#64 ∧
  feistelRounds z 0#64 1 = (0x33AF20EA#32, 0x00000000#32) ∧
  feistelRounds z 0#64 2 = (0x152A880C#32, 0x33AF20EA#32) ∧
  feistelRounds z 0#64 32 = (0xA6C2FDC9#32, 0x12610BE2#32) ∧
  encrypt kc 0x0706050403020100#64 = 0x1C942288E8A65C85#64 ∧
  encrypt kr 0x1C942288E8A65C85#64 = 0x0CBA2218D500D199#64

/-- 40_cipher R106: CIPHER_ENC writes E(KEY, BLK) to CT, leaves KEY and BLK as they were, so that it
repeats, and never fails; the carry of the key addition is discarded. -/
def Obligations.CipherEncWritesTheCiphertext : Prop :=
  CommandWord .cipherEnc 0x00000001#32 ∧
  (∀ s : State, ∃ t, exec .cipherEnc s = .next t ∧
    t.ctHi ++ t.ctLo = encrypt s.key (s.blkHi ++ s.blkLo) ∧
    SameInputs s t ∧ SameHash s t ∧ t.bnr = s.bnr ∧ CompletedOk false s t ∧
    ∃ u, exec .cipherEnc t = .next u ∧ SameCt t u) ∧
  roundF 0xFFFFFFFF#32 1#32 = 0x33AF20EA#32 ∧ roundF 0#32 0#32 = 0x33AF20EA#32 ∧
  encrypt #v[0, 0, 0, 0, 0, 0, 0, 0] 0#64 ≠ 0#64 ∧
  encrypt #v[0x01234567, 0x89ABCDEF, 0xFEDCBA98, 0x76543210, 0x00112233, 0x44556677, 0x8899AABB,
    0xCCDDEEFF] (0x07060504#32 ++ 0x03020100#32) = 0x1C942288#32 ++ 0xE8A65C85#32

/-! ### The hash engine (41_hash) -/

/-- 41_hash R120: the A-transform moves the three high words down and puts y1 ⊕ y2 on top. -/
def Obligations.TransformAMovesWords : Prop :=
  (∀ y : Wide,
    (transformA y).extractLsb' 0 64 = y.extractLsb' 64 64 ∧
    (transformA y).extractLsb' 64 64 = y.extractLsb' 128 64 ∧
    (transformA y).extractLsb' 128 64 = y.extractLsb' 192 64 ∧
    (transformA y).extractLsb' 192 64 = y.extractLsb' 0 64 ^^^ y.extractLsb' 64 64) ∧
  transformA 0x1F1E1D1C1B1A191817161514131211100F0E0D0C0B0A09080706050403020100#256
    = 0x08080808080808081F1E1D1C1B1A191817161514131211100F0E0D0C0B0A0908#256

/-- 41_hash R121: the P-transform's byte i + 4k is byte 8i + k of its argument. -/
def Obligations.TransformPMovesBytes : Prop :=
  (∀ (y : Wide) (i k : Nat), i ≤ 3 → k ≤ 7 →
    byteOf (transformP y) (i + 4 * k) = byteOf y (8 * i + k)) ∧
  transformP 0x1F1E1D1C1B1A191817161514131211100F0E0D0C0B0A09080706050403020100#256
    = 0x1F170F071E160E061D150D051C140C041B130B031A120A021911090118100800#256

/-- 41_hash R122: ψ moves the 16-bit words down, feeds back six of them on top, iterates, and is a
bijection. -/
def Obligations.PsiShiftsWithFeedback : Prop :=
  (∀ (y : Wide) (i : Nat), i < 15 → half (psi y) i = half y (i + 1)) ∧
  (∀ y : Wide, half (psi y) 15 =
    half y 0 ^^^ half y 1 ^^^ half y 2 ^^^ half y 3 ^^^ half y 12 ^^^ half y 15) ∧
  (∀ y : Wide, psi y = (y >>> 16) ||| ((half y 0 ^^^ half y 1 ^^^ half y 2 ^^^ half y 3 ^^^
    half y 12 ^^^ half y 15).setWidth 256 <<< 240)) ∧
  (∀ y : Wide, psiIter 0 y = y) ∧
  (∀ (n : Nat) (y : Wide), psiIter (n + 1) y = psi (psiIter n y)) ∧
  Function.Bijective psi ∧
  psi 1#256 = 1#256 <<< 240 ∧
  psi 0x1F1E1D1C1B1A191817161514131211100F0E0D0C0B0A09080706050403020100#256
    = 0x06061F1E1D1C1B1A191817161514131211100F0E0D0C0B0A0908070605040302#256

/-- 41_hash R123, R124: the four keys of the compression step, with the example for H = M = 0. -/
def Obligations.KeyGeneration : Prop :=
  (∀ h m : Wide,
    subKey h m 1 = transformP (h ^^^ m) ∧
    subKey h m 2 = transformP (transformA h ^^^ transformA (transformA m)) ∧
    subKey h m 3 = transformP
      ((transformA (transformA h) ^^^
          0xFF00FFFF000000FFFF0000FF00FFFF0000FF00FF00FF00FFFF00FF00FF00FF00#256) ^^^
        transformA (transformA (transformA (transformA m)))) ∧
    subKey h m 4 = transformP
      (transformA (transformA (transformA h) ^^^
          0xFF00FFFF000000FFFF0000FF00FFFF0000FF00FF00FF00FFFF00FF00FF00FF00#256) ^^^
        transformA (transformA (transformA (transformA (transformA (transformA m))))))) ∧
  subKey 0#256 0#256 1 = 0#256 ∧ subKey 0#256 0#256 2 = 0#256 ∧
  subKey 0#256 0#256 3 = 0xFFFF00FF0000FF00FF0000FFFFFFFF00000000FF00FFFF0000FF00FFFF00FF00#256 ∧
  subKey 0#256 0#256 4 = 0xFFFFFF00FF0000FFFFFF0000FFFFFFFFFF000000FF00FFFFFF00FF00FFFF00FF#256

/-- 41_hash R125, R126: slice i of S is the encryption of slice i of H under key i, whose round keys
are its words, least significant first. -/
def Obligations.SlicesAreEncryptedUnderTheirKeys : Prop :=
  ∀ (h m : Wide) (i : Nat), 1 ≤ i → i ≤ 4 →
    (encSlices h m).extractLsb' (64 * (i - 1)) 64 =
      encrypt (wordsOf (subKey h m i)) (h.extractLsb' (64 * (i - 1)) 64) ∧
    ∀ t : Nat, 1 ≤ t → t ≤ 8 →
      roundKey (wordsOf (subKey h m i)) t = (subKey h m i).extractLsb' (32 * t - 32) 32

/-- 41_hash R129, 70_reset R213: HASH_INIT clears the hash context and nothing else; after reset the
context is already so. -/
def Obligations.HashInitClearsTheContext : Prop :=
  CommandWord .hashInit 0x00000010#32 ∧
  (∀ s : State, ∃ t, exec .hashInit s = .next t ∧
    t.hh = 0#256 ∧ t.hs = 0#256 ∧ t.hl = 0#256 ∧
    SameInputs s t ∧ SameCt s t ∧ t.bnr = s.bnr ∧ CompletedOk false s t ∧
    SameHash t State.reset)

/-- 41_hash R130: HASH_COMPRESS replaces HH by f(HH, HM) and nothing else. -/
def Obligations.HashCompressIsOneStep : Prop :=
  CommandWord .hashCompress 0x00000011#32 ∧
  (∀ s : State, ∃ t, exec .hashCompress s = .next t ∧
    t.hh = compress s.hh s.hm ∧ t.hs = s.hs ∧ t.hl = s.hl ∧
    SameInputs s t ∧ SameCt s t ∧ t.bnr = s.bnr ∧ CompletedOk false s t)

/-- 41_hash R131: HASH_BLOCK compresses, adds the block to the checksum and 256 to the length, both
modulo 2^256, and changes nothing else. -/
def Obligations.HashBlockAbsorbsABlock : Prop :=
  CommandWord .hashBlock 0x00000012#32 ∧
  (∀ s : State, ∃ t, exec .hashBlock s = .next t ∧
    t.hh = compress s.hh s.hm ∧
    t.hs.toNat = (s.hs.toNat + s.hm.toNat) % 2 ^ 256 ∧
    t.hl.toNat = (s.hl.toNat + 256) % 2 ^ 256 ∧
    SameInputs s t ∧ SameCt s t ∧ t.bnr = s.bnr ∧ CompletedOk false s t)

/-- 41_hash R132: HASH_FINAL nb absorbs the low nb bytes of HM, then the length and the checksum,
and changes nothing else; a word with a byte count above 32 ends in ILLEGAL_CMD. -/
def Obligations.HashFinalFinishesTheMessage : Prop :=
  (∀ nb : BitVec 6, nb.toNat ≤ 32 →
    CommandWord (.hashFinal nb) (0x13#32 ||| (nb.setWidth 32 <<< 8))) ∧
  (∀ (nb : BitVec 6) (s : State), nb.toNat ≤ 32 → ∃ t, exec (.hashFinal nb) s = .next t ∧
    (nb.toNat = 0 → t.hs = s.hs ∧ t.hl = s.hl ∧
      t.hh = compress (compress s.hh s.hl) s.hs) ∧
    (0 < nb.toNat → ∀ m' : Wide, m'.toNat = s.hm.toNat % 2 ^ (8 * nb.toNat) →
      t.hs = s.hs + m' ∧ t.hl = s.hl + BitVec.ofNat 256 (8 * nb.toNat) ∧
      t.hh = compress (compress (compress s.hh m') t.hl) t.hs) ∧
    SameInputs s t ∧ SameCt s t ∧ t.bnr = s.bnr ∧ CompletedOk false s t) ∧
  (∀ s : State, opField s.lcmd = 0x13#8 → 32 < (nbField s.lcmd).toNat →
    ∃ t, completeStep s = .next t ∧ CompletedErr 1#4 s t ∧ SameData s t)

/-- 41_hash R132, corner case nb = 32: the result equals HASH_BLOCK followed by HASH_FINAL 0. -/
def Obligations.HashFinal32IsBlockThenFinal0 : Prop :=
  ∀ s t : State, exec .hashBlock s = .next t →
    exec (.hashFinal 32#6) s = exec (.hashFinal 0#6) t

/-- 41_hash R132: bytes nb..31 of HM are ignored, whatever they hold. -/
def Obligations.HashFinalIgnoresBytesPastTheCount : Prop :=
  ∀ (nb : BitVec 6) (s s' : State), nb.toNat ≤ 32 → SameHash s s' →
    (∀ i, i < nb.toNat → byteOf s'.hm i = byteOf s.hm i) →
    ∃ t t', exec (.hashFinal nb) s = .next t ∧ exec (.hashFinal nb) s' = .next t' ∧
      SameHash t t' ∧ t.hm = s.hm ∧ t'.hm = s'.hm

/-- 41_hash R134: the host's command sequence computes Hash94 of the message, for every message,
whatever bytes stand past its end in HM; with a message of whole blocks, also when the last one goes
by HASH_FINAL 32. -/
def Obligations.CommandSequenceComputesHash94 : Prop :=
  (∀ (m : List (BitVec 8)) (s : State) (last : Wide),
    last.toNat % 2 ^ (8 * (m.length % 32)) = (messageBlock m (32 * (m.length / 32))).toNat →
    ∃ t, hashRun m (m.length / 32) (BitVec.ofNat 6 (m.length % 32)) last s = .next t ∧
      t.hh = hash94 m ∧ t.hl = BitVec.ofNat 256 (8 * m.length) ∧ t.done = true ∧
      t.err = false) ∧
  (∀ (m : List (BitVec 8)) (s : State), 0 < m.length → m.length % 32 = 0 →
    ∃ t, hashRun m (m.length / 32 - 1) 32#6 (messageBlock m (m.length - 32)) s = .next t ∧
      t.hh = hash94 m)

/-- 95_test_vectors sections 1.2 and 2.5, 41_hash R128, R133: the compression of zeros, and two
published digests. -/
def Obligations.PublishedDigests : Prop :=
  encSlices 0#256 0#256
    = 0xA29C74D366B0B7F62E12357C87B6100212610BE2A6C2FDC912610BE2A6C2FDC9#256 ∧
  compress 0#256 0#256
    = 0x105439C35BF5F207FCDB83CE13A96D220AF2571C05E64EC939B19A9749E68252#256 ∧
  hash94 [] = 0x8D0F49492C91F45A68FF5C05D2C2B4AB78027B9AAB5CE3FEFF5267C49CB985CE#256 ∧
  digestBytes (hash94 [0x61#8, 0x62#8, 0x63#8]) =
    [0xf3#8, 0x13#8, 0x43#8, 0x48#8, 0xc4#8, 0x4f#8, 0xb1#8, 0xb2#8,
      0xa2#8, 0x77#8, 0x72#8, 0x9e#8, 0x22#8, 0x85#8, 0xeb#8, 0xb5#8,
      0xcb#8, 0x5e#8, 0x0f#8, 0x29#8, 0xc9#8, 0x75#8, 0xbc#8, 0x75#8,
      0x3b#8, 0x70#8, 0x49#8, 0x7c#8, 0x06#8, 0xa4#8, 0xd5#8, 0x1d#8]

/-! ### The bignum engine (42_bignum) -/

/-- 42_bignum R151: on success the result is below the modulus (below 10000 for BN_TRIALDIV) and so
fits the register; on an error BNR keeps its value. -/
def Obligations.BignumResultsAreInRange : Prop :=
  (∀ s t : State, exec .bnModexp s = .next t → t.err = false → t.bnr.toNat < s.bnm.toNat) ∧
  (∀ s t : State, exec .bnModinv s = .next t → t.err = false → t.bnr.toNat < s.bnm.toNat) ∧
  (∀ s t : State, exec .bnTrialdiv s = .next t → t.bnr.toNat < 10000) ∧
  (∀ (i : Instr) (s t : State), exec i s = .next t → t.err = true → t.bnr = s.bnr)

/-- 42_bignum R152: BN_MODEXP writes the exact power reduced modulo M, or ends in INVALID_PARAM when
M = 0. -/
def Obligations.ModexpWritesThePower : Prop :=
  CommandWord .bnModexp 0x00000020#32 ∧
  (∀ s : State, s.bnm.toNat = 0 →
    ∃ t, exec .bnModexp s = .next t ∧ CompletedErr 2#4 s t ∧ SameData s t) ∧
  (∀ s : State, s.bnm.toNat ≠ 0 → ∃ t, exec .bnModexp s = .next t ∧
    t.bnr.toNat = s.bna.toNat ^ s.bnb.toNat % s.bnm.toNat ∧
    SameInputs s t ∧ SameCt s t ∧ SameHash s t ∧ CompletedOk false s t)

/-- 42_bignum R154: BN_MODINV writes the unique inverse below M, or ends in INVALID_PARAM when M = 0,
else in NO_INVERSE when gcd(A, M) is not 1. -/
def Obligations.ModinvWritesTheInverse : Prop :=
  CommandWord .bnModinv 0x00000021#32 ∧
  (∀ s : State, s.bnm.toNat = 0 →
    ∃ t, exec .bnModinv s = .next t ∧ CompletedErr 2#4 s t ∧ SameData s t) ∧
  (∀ s : State, s.bnm.toNat ≠ 0 → Nat.gcd s.bna.toNat s.bnm.toNat ≠ 1 →
    ∃ t, exec .bnModinv s = .next t ∧ CompletedErr 3#4 s t ∧ SameData s t) ∧
  (∀ s : State, s.bnm.toNat ≠ 0 → Nat.gcd s.bna.toNat s.bnm.toNat = 1 →
    ∃ t, exec .bnModinv s = .next t ∧
    t.bnr.toNat < s.bnm.toNat ∧ s.bna.toNat * t.bnr.toNat % s.bnm.toNat = 1 % s.bnm.toNat ∧
    (∀ x, x < s.bnm.toNat → s.bna.toNat * x % s.bnm.toNat = 1 % s.bnm.toNat → x = t.bnr.toNat) ∧
    SameInputs s t ∧ SameCt s t ∧ SameHash s t ∧ CompletedOk false s t)

/-- 42_bignum R156: the decomposition exists, is unique, and is what the engine uses. -/
def Obligations.OddPartDecompositionIsUnique : Prop :=
  (∀ n : Nat, 5 ≤ n → n % 2 = 1 →
    n - 1 = 2 ^ (decomposition n).1 * (decomposition n).2 ∧ (decomposition n).2 % 2 = 1 ∧
    1 ≤ (decomposition n).1 ∧
    ∀ k d : Nat, n - 1 = 2 ^ k * d → d % 2 = 1 → (k, d) = decomposition n) ∧
  decomposition 561 = (4, 35) ∧ decomposition 2047 = (1, 1023)

/-- 42_bignum R157: BN_MR_ROUND's operand check and its result: 1 exactly when a^d is 1 or one of
a^d, a^2d, ..., a^(2^(s-1) d) is n − 1 modulo n. No data register changes. -/
def Obligations.MillerRabinRoundDecides : Prop :=
  CommandWord .bnMrRound 0x00000022#32 ∧
  (∀ s : State, ¬ (5 ≤ s.bnm.toNat ∧ s.bnm.toNat % 2 = 1 ∧ 2 ≤ s.bna.toNat ∧
      s.bna.toNat ≤ s.bnm.toNat - 2) →
    ∃ t, exec .bnMrRound s = .next t ∧ CompletedErr 2#4 s t ∧ SameData s t) ∧
  (∀ s : State, 5 ≤ s.bnm.toNat → s.bnm.toNat % 2 = 1 → 2 ≤ s.bna.toNat →
    s.bna.toNat ≤ s.bnm.toNat - 2 →
    ∃ t, exec .bnMrRound s = .next t ∧ CompletedOk t.result s t ∧ SameData s t ∧
      ∀ k d : Nat, s.bnm.toNat - 1 = 2 ^ k * d → d % 2 = 1 →
        (t.result = true ↔ s.bna.toNat ^ d % s.bnm.toNat = 1 ∨
          ∃ r, r < k ∧ s.bna.toNat ^ (2 ^ r * d) % s.bnm.toNat = s.bnm.toNat - 1))

/-- 42_bignum R157, corner case: if n is prime, every legal witness gives RESULT = 1. -/
def Obligations.MillerRabinPassesEveryPrime : Prop :=
  ∀ s : State, s.bnm.toNat.Prime → 5 ≤ s.bnm.toNat → 2 ≤ s.bna.toNat →
    s.bna.toNat ≤ s.bnm.toNat - 2 →
    ∃ t, exec .bnMrRound s = .next t ∧ t.result = true ∧ t.err = false

/-- 42_bignum R159: SP is the set of the primes below 10000, and has 1229 elements. -/
def Obligations.SmallPrimesAreThePrimesBelow10000 : Prop :=
  (∀ p : Nat, p ∈ smallPrimes ↔ p.Prime ∧ p < 10000) ∧
  smallPrimes.length = 1229 ∧ smallPrimes.Pairwise (· < ·) ∧
  smallPrimes.head? = some 2 ∧ smallPrimes.getLast? = some 9973

/-- 42_bignum R160: BN_TRIALDIV reports the least prime below 10000 that is a proper divisor of n,
or passes n when there is none; n below 2 fails. -/
def Obligations.TrialDivisionReportsTheLeastFactor : Prop :=
  CommandWord .bnTrialdiv 0x00000023#32 ∧
  (∀ s : State, s.bnm.toNat < 2 → ∃ t, exec .bnTrialdiv s = .next t ∧ t.bnr.toNat = 0 ∧
    SameInputs s t ∧ SameCt s t ∧ SameHash s t ∧ CompletedOk false s t) ∧
  (∀ s : State, 2 ≤ s.bnm.toNat →
    (∀ p : Nat, p.Prime → p < 10000 → p < s.bnm.toNat → ¬ p ∣ s.bnm.toNat) →
    ∃ t, exec .bnTrialdiv s = .next t ∧ t.bnr.toNat = 0 ∧
      SameInputs s t ∧ SameCt s t ∧ SameHash s t ∧ CompletedOk true s t) ∧
  (∀ (s : State) (p : Nat), 2 ≤ s.bnm.toNat → p.Prime → p < 10000 → p < s.bnm.toNat →
    p ∣ s.bnm.toNat →
    (∀ q : Nat, q.Prime → q < 10000 → q < s.bnm.toNat → q ∣ s.bnm.toNat → p ≤ q) →
    ∃ t, exec .bnTrialdiv s = .next t ∧ t.bnr.toNat = p ∧
      SameInputs s t ∧ SameCt s t ∧ SameHash s t ∧ CompletedOk false s t)

/-- 42_bignum R161: below 10007² trial division decides primality, and a composite that passes has
no prime factor below 10007. -/
def Obligations.TrialDivisionDecidesSmallPrimality : Prop :=
  (∀ s : State, 2 ≤ s.bnm.toNat → s.bnm.toNat < 100140049 →
    ∃ t, exec .bnTrialdiv s = .next t ∧ (t.result = true ↔ s.bnm.toNat.Prime)) ∧
  (∀ s t : State, exec .bnTrialdiv s = .next t → t.result = true → ¬ s.bnm.toNat.Prime →
    ∀ p : Nat, p.Prime → p ∣ s.bnm.toNat → 10007 ≤ p)

/-- 42_bignum R162, 95_test_vectors section 1.1: with two distinct primes whose product fits the
registers, the private exponent that BN_MODINV gives undoes the public one. -/
def Obligations.RsaRoundTrip : Prop :=
  ∀ (p q m : Nat) (s k : State), p.Prime → q.Prime → p ≠ q → m < p * q →
    p * q < 2 ^ Config.bnWidth → s.bnm.toNat = (p - 1) * (q - 1) →
    exec .bnModinv s = .next k → k.err = false →
    ∃ c d, exec .bnModexp { k with bna := BitVec.ofNat Config.bnWidth m, bnb := s.bna,
                                   bnm := BitVec.ofNat Config.bnWidth (p * q) } = .next c ∧
      exec .bnModexp { c with bna := c.bnr, bnb := k.bnr } = .next d ∧
      d.bnr.toNat = m ∧ d.err = false
end

