-- ==== Sys2Proof/Laws/Bignum.lean ====
section
/-! SUPPORT. What the bignum engine's functions compute, said once by value (42_bignum R152 to
R157). -/

namespace Sys2Proof.Laws

open Sys2Proof.Machine

/-- Squaring with enough fuel computes the power. -/
theorem powModFuel_eq (fuel a b m : Nat) (h : b ≤ fuel) : powModFuel fuel a b m = a ^ b % m := by
  induction fuel generalizing a b with
  | zero => obtain rfl : b = 0 := by omega
            simp [powModFuel]
  | succ n ih =>
    rw [powModFuel]
    split
    · next hb => simp [hb]
    · next hb =>
      have hsq : (a * a % m) ^ (b / 2) % m = a ^ (2 * (b / 2)) % m := by
        rw [← Nat.pow_mod, pow_mul, pow_two]
      simp only [ih (a * a % m) (b / 2) (by omega), hsq]
      split
      · next hodd =>
        have e : b = 2 * (b / 2) + 1 := by omega
        conv_rhs => rw [e, pow_succ, Nat.mul_comm]
        simp [Nat.mul_mod]
      · next heven =>
        have e : b = 2 * (b / 2) := by omega
        conv_rhs => rw [e]

/-- The value of modular exponentiation (42_bignum R152). -/
theorem powMod_eq (a b m : Nat) : powMod a b m = a ^ b % m := powModFuel_eq b a b m (Nat.le_refl b)

/-- Extended Euclid keeps `r ≡ a · x` and ends at the gcd. -/
theorem euclid_spec (a m : Int) (fuel r0 r1 : Nat) (x0 x1 : Int) (hf : r1 ≤ fuel)
    (h0 : m ∣ a * x0 - r0) (h1 : m ∣ a * x1 - r1) :
    m ∣ a * euclid fuel r0 r1 x0 x1 - (Nat.gcd r0 r1 : Nat) := by
  induction fuel generalizing r0 r1 x0 x1 with
  | zero =>
    obtain rfl : r1 = 0 := by omega
    simpa [euclid] using h0
  | succ n ih =>
    rw [euclid]
    split
    · next hr => subst hr; simpa using h0
    · next hr =>
      have hlt : r0 % r1 < r1 := Nat.mod_lt _ (by omega)
      have hg : Nat.gcd r0 r1 = Nat.gcd r1 (r0 % r1) := by
        rw [Nat.gcd_comm r0 r1, Nat.gcd_rec r1 r0, Nat.gcd_comm]
      rw [hg]
      refine ih r1 (r0 % r1) x1 _ (by omega) h1 ?_
      have hdiv : (r0 : Int) = r1 * (r0 / r1 : Nat) + (r0 % r1 : Nat) := by
        exact_mod_cast (Nat.div_add_mod r0 r1).symm
      have hstep : a * (x0 - ((r0 / r1 : Nat) : Int) * x1) - (r0 % r1 : Nat)
          = (a * x0 - r0) - ((r0 / r1 : Nat) : Int) * (a * x1 - r1) := by
        linear_combination hdiv
      rw [hstep]
      exact Int.dvd_sub h0 (Dvd.dvd.mul_left h1 _)

/-- The inverse is below the modulus. -/
theorem inverseMod_lt (a m : Nat) (hm : m ≠ 0) : inverseMod a m < m := by
  have h := Int.emod_lt_of_pos (euclid m m (a % m) 0 1) (b := (m : Int)) (by omega)
  have h' := Int.emod_nonneg (euclid m m (a % m) 0 1) (b := (m : Int)) (by omega)
  unfold inverseMod
  omega

/-- The value of the modular inverse (42_bignum R154). -/
theorem mul_inverseMod (a m : Nat) (hm : m ≠ 0) (hg : Nat.gcd a m = 1) :
    a * inverseMod a m % m = 1 % m := by
  have hlt : a % m < m := Nat.mod_lt _ (by omega)
  have hamod : (m : Int) ∣ (a : Int) * 1 - ((a % m : Nat) : Int) := by
    rw [mul_one]; push_cast; exact Int.dvd_self_sub_emod
  have hs := euclid_spec a m m m (a % m) 0 1 (by omega) (by simp) hamod
  have hgcd : Nat.gcd m (a % m) = 1 := by rw [Nat.gcd_comm, ← Nat.gcd_rec, Nat.gcd_comm, hg]
  rw [hgcd] at hs
  have hx : ((inverseMod a m : Nat) : Int) = euclid m m (a % m) 0 1 % m := by
    have h' := Int.emod_nonneg (euclid m m (a % m) 0 1) (b := (m : Int)) (by omega)
    unfold inverseMod; omega
  have hd : (m : Int) ∣ (a : Int) * (inverseMod a m : Nat) - 1 := by
    have e : (a : Int) * (inverseMod a m : Nat) - 1 = ((a : Int) * euclid m m (a % m) 0 1 - (1 : Nat))
        - a * (euclid m m (a % m) 0 1 - euclid m m (a % m) 0 1 % m) := by
      rw [hx]; push_cast; ring
    rw [e]
    exact Int.dvd_sub hs (Dvd.dvd.mul_left Int.dvd_self_sub_emod _)
  have := (Int.emod_emod_of_dvd _ (dvd_refl (m : Int))).symm.trans
    ((Int.emod_emod_of_dvd _ (dvd_refl _)).trans ((Int.emod_eq_emod_iff_emod_sub_eq_zero).mpr
      (Int.emod_eq_zero_of_dvd hd)))
  exact_mod_cast this

/-- Splitting off twos with enough fuel: the factors and an odd rest. -/
theorem twoAdicFuel_spec (fuel v : Nat) (hv : v ≠ 0) (h : v ≤ fuel) :
    v = 2 ^ (twoAdicFuel fuel v).1 * (twoAdicFuel fuel v).2 ∧ (twoAdicFuel fuel v).2 % 2 = 1 := by
  induction fuel generalizing v with
  | zero => omega
  | succ n ih =>
    rw [twoAdicFuel]
    split
    · next he =>
      obtain ⟨h1, h2⟩ := ih (v / 2) (by omega) (by omega)
      refine ⟨?_, h2⟩
      rw [pow_succ, Nat.mul_right_comm, ← h1]
      omega
    · next ho => exact ⟨by simp, by simpa using ho⟩

/-- The decomposition `n − 1 = 2^s · d` with d odd (42_bignum R156). -/
theorem decomposition_spec (n : Nat) (hn : 2 ≤ n) :
    n - 1 = 2 ^ (decomposition n).1 * (decomposition n).2 ∧ (decomposition n).2 % 2 = 1 :=
  twoAdicFuel_spec (n - 1) (n - 1) (by omega) (Nat.le_refl _)

/-- The squaring loop hits n − 1 exactly when one of the next `k` powers does (42_bignum R157). -/
theorem squaringsHit_iff (n x : Nat) (k : Nat) :
    squaringsHit n x k = true ↔ ∃ r, 1 ≤ r ∧ r ≤ k ∧ x ^ 2 ^ r % n = n - 1 := by
  induction k generalizing x with
  | zero =>
    simp only [squaringsHit, Bool.false_eq_true, false_iff, not_exists]
    intro r h
    omega
  | succ k ih =>
    simp only [squaringsHit, Bool.or_eq_true, decide_eq_true_eq, ih]
    have hp : ∀ r, (x * x % n) ^ 2 ^ r % n = x ^ 2 ^ (r + 1) % n := by
      intro r
      rw [← Nat.pow_mod, ← pow_two, ← pow_mul, pow_succ 2 r, Nat.mul_comm]
    constructor
    · rintro (h | ⟨r, h1, h2, h3⟩)
      · exact ⟨1, by omega, by omega, by rw [pow_one, pow_two]; exact h⟩
      · exact ⟨r + 1, by omega, by omega, by rw [← hp]; exact h3⟩
    · rintro ⟨r, h1, h2, h3⟩
      rcases Nat.eq_or_lt_of_le h1 with rfl | h
      · left; rw [pow_one, pow_two] at h3; exact h3
      · right
        obtain ⟨r, rfl⟩ : ∃ q, r = q + 1 := ⟨r - 1, by omega⟩
        exact ⟨r, by omega, by omega, by rw [hp]; exact h3⟩

end Sys2Proof.Laws
end

