-- ==== Sys2Proof/Laws/State.lean ====
section
/-! SUPPORT. One lemma per field per named update of the state, so that no proof unfolds a record
update. -/

namespace Sys2Proof.Machine

variable (s : State)

/-! ### writeCt -/

@[simp] theorem writeCt_key (c : Block) : (writeCt c s).key = s.key := rfl
@[simp] theorem writeCt_blkLo (c : Block) : (writeCt c s).blkLo = s.blkLo := rfl
@[simp] theorem writeCt_blkHi (c : Block) : (writeCt c s).blkHi = s.blkHi := rfl
@[simp] theorem writeCt_ctLo (c : Block) : (writeCt c s).ctLo = c.extractLsb' 0 32 := rfl
@[simp] theorem writeCt_ctHi (c : Block) : (writeCt c s).ctHi = c.extractLsb' 32 32 := rfl
@[simp] theorem writeCt_hm (c : Block) : (writeCt c s).hm = s.hm := rfl
@[simp] theorem writeCt_hh (c : Block) : (writeCt c s).hh = s.hh := rfl
@[simp] theorem writeCt_hs (c : Block) : (writeCt c s).hs = s.hs := rfl
@[simp] theorem writeCt_hl (c : Block) : (writeCt c s).hl = s.hl := rfl
@[simp] theorem writeCt_bna (c : Block) : (writeCt c s).bna = s.bna := rfl
@[simp] theorem writeCt_bnb (c : Block) : (writeCt c s).bnb = s.bnb := rfl
@[simp] theorem writeCt_bnm (c : Block) : (writeCt c s).bnm = s.bnm := rfl
@[simp] theorem writeCt_bnr (c : Block) : (writeCt c s).bnr = s.bnr := rfl
@[simp] theorem writeCt_busy (c : Block) : (writeCt c s).busy = s.busy := rfl
@[simp] theorem writeCt_done (c : Block) : (writeCt c s).done = s.done := rfl
@[simp] theorem writeCt_err (c : Block) : (writeCt c s).err = s.err := rfl
@[simp] theorem writeCt_overrun (c : Block) : (writeCt c s).overrun = s.overrun := rfl
@[simp] theorem writeCt_errcode (c : Block) : (writeCt c s).errcode = s.errcode := rfl
@[simp] theorem writeCt_result (c : Block) : (writeCt c s).result = s.result := rfl
@[simp] theorem writeCt_doneIe (c : Block) : (writeCt c s).doneIe = s.doneIe := rfl
@[simp] theorem writeCt_doneIp (c : Block) : (writeCt c s).doneIp = s.doneIp := rfl
@[simp] theorem writeCt_lcmd (c : Block) : (writeCt c s).lcmd = s.lcmd := rfl
@[simp] theorem writeCt_prdata (c : Block) : (writeCt c s).prdata = s.prdata := rfl
@[simp] theorem writeCt_draws (c : Block) : (writeCt c s).draws = s.draws := rfl
@[simp] theorem writeCt_schedule (c : Block) : (writeCt c s).schedule = s.schedule := rfl

/-! ### writeHash -/

@[simp] theorem writeHash_key (h sg l : Wide) : (writeHash h sg l s).key = s.key := rfl
@[simp] theorem writeHash_blkLo (h sg l : Wide) : (writeHash h sg l s).blkLo = s.blkLo := rfl
@[simp] theorem writeHash_blkHi (h sg l : Wide) : (writeHash h sg l s).blkHi = s.blkHi := rfl
@[simp] theorem writeHash_ctLo (h sg l : Wide) : (writeHash h sg l s).ctLo = s.ctLo := rfl
@[simp] theorem writeHash_ctHi (h sg l : Wide) : (writeHash h sg l s).ctHi = s.ctHi := rfl
@[simp] theorem writeHash_hm (h sg l : Wide) : (writeHash h sg l s).hm = s.hm := rfl
@[simp] theorem writeHash_hh (h sg l : Wide) : (writeHash h sg l s).hh = h := rfl
@[simp] theorem writeHash_hs (h sg l : Wide) : (writeHash h sg l s).hs = sg := rfl
@[simp] theorem writeHash_hl (h sg l : Wide) : (writeHash h sg l s).hl = l := rfl
@[simp] theorem writeHash_bna (h sg l : Wide) : (writeHash h sg l s).bna = s.bna := rfl
@[simp] theorem writeHash_bnb (h sg l : Wide) : (writeHash h sg l s).bnb = s.bnb := rfl
@[simp] theorem writeHash_bnm (h sg l : Wide) : (writeHash h sg l s).bnm = s.bnm := rfl
@[simp] theorem writeHash_bnr (h sg l : Wide) : (writeHash h sg l s).bnr = s.bnr := rfl
@[simp] theorem writeHash_busy (h sg l : Wide) : (writeHash h sg l s).busy = s.busy := rfl
@[simp] theorem writeHash_done (h sg l : Wide) : (writeHash h sg l s).done = s.done := rfl
@[simp] theorem writeHash_err (h sg l : Wide) : (writeHash h sg l s).err = s.err := rfl
@[simp] theorem writeHash_overrun (h sg l : Wide) : (writeHash h sg l s).overrun = s.overrun := rfl
@[simp] theorem writeHash_errcode (h sg l : Wide) : (writeHash h sg l s).errcode = s.errcode := rfl
@[simp] theorem writeHash_result (h sg l : Wide) : (writeHash h sg l s).result = s.result := rfl
@[simp] theorem writeHash_doneIe (h sg l : Wide) : (writeHash h sg l s).doneIe = s.doneIe := rfl
@[simp] theorem writeHash_doneIp (h sg l : Wide) : (writeHash h sg l s).doneIp = s.doneIp := rfl
@[simp] theorem writeHash_lcmd (h sg l : Wide) : (writeHash h sg l s).lcmd = s.lcmd := rfl
@[simp] theorem writeHash_prdata (h sg l : Wide) : (writeHash h sg l s).prdata = s.prdata := rfl
@[simp] theorem writeHash_draws (h sg l : Wide) : (writeHash h sg l s).draws = s.draws := rfl
@[simp] theorem writeHash_schedule (h sg l : Wide) : (writeHash h sg l s).schedule = s.schedule := rfl

/-! ### writeBnr -/

@[simp] theorem writeBnr_key (r : Nat) : (writeBnr r s).key = s.key := rfl
@[simp] theorem writeBnr_blkLo (r : Nat) : (writeBnr r s).blkLo = s.blkLo := rfl
@[simp] theorem writeBnr_blkHi (r : Nat) : (writeBnr r s).blkHi = s.blkHi := rfl
@[simp] theorem writeBnr_ctLo (r : Nat) : (writeBnr r s).ctLo = s.ctLo := rfl
@[simp] theorem writeBnr_ctHi (r : Nat) : (writeBnr r s).ctHi = s.ctHi := rfl
@[simp] theorem writeBnr_hm (r : Nat) : (writeBnr r s).hm = s.hm := rfl
@[simp] theorem writeBnr_hh (r : Nat) : (writeBnr r s).hh = s.hh := rfl
@[simp] theorem writeBnr_hs (r : Nat) : (writeBnr r s).hs = s.hs := rfl
@[simp] theorem writeBnr_hl (r : Nat) : (writeBnr r s).hl = s.hl := rfl
@[simp] theorem writeBnr_bna (r : Nat) : (writeBnr r s).bna = s.bna := rfl
@[simp] theorem writeBnr_bnb (r : Nat) : (writeBnr r s).bnb = s.bnb := rfl
@[simp] theorem writeBnr_bnm (r : Nat) : (writeBnr r s).bnm = s.bnm := rfl
@[simp] theorem writeBnr_bnr (r : Nat) : (writeBnr r s).bnr = BitVec.ofNat Config.bnWidth r := rfl
@[simp] theorem writeBnr_busy (r : Nat) : (writeBnr r s).busy = s.busy := rfl
@[simp] theorem writeBnr_done (r : Nat) : (writeBnr r s).done = s.done := rfl
@[simp] theorem writeBnr_err (r : Nat) : (writeBnr r s).err = s.err := rfl
@[simp] theorem writeBnr_overrun (r : Nat) : (writeBnr r s).overrun = s.overrun := rfl
@[simp] theorem writeBnr_errcode (r : Nat) : (writeBnr r s).errcode = s.errcode := rfl
@[simp] theorem writeBnr_result (r : Nat) : (writeBnr r s).result = s.result := rfl
@[simp] theorem writeBnr_doneIe (r : Nat) : (writeBnr r s).doneIe = s.doneIe := rfl
@[simp] theorem writeBnr_doneIp (r : Nat) : (writeBnr r s).doneIp = s.doneIp := rfl
@[simp] theorem writeBnr_lcmd (r : Nat) : (writeBnr r s).lcmd = s.lcmd := rfl
@[simp] theorem writeBnr_prdata (r : Nat) : (writeBnr r s).prdata = s.prdata := rfl
@[simp] theorem writeBnr_draws (r : Nat) : (writeBnr r s).draws = s.draws := rfl
@[simp] theorem writeBnr_schedule (r : Nat) : (writeBnr r s).schedule = s.schedule := rfl

/-! ### finishOk -/

@[simp] theorem finishOk_key (r : Bool) : (finishOk r s).key = s.key := rfl
@[simp] theorem finishOk_blkLo (r : Bool) : (finishOk r s).blkLo = s.blkLo := rfl
@[simp] theorem finishOk_blkHi (r : Bool) : (finishOk r s).blkHi = s.blkHi := rfl
@[simp] theorem finishOk_ctLo (r : Bool) : (finishOk r s).ctLo = s.ctLo := rfl
@[simp] theorem finishOk_ctHi (r : Bool) : (finishOk r s).ctHi = s.ctHi := rfl
@[simp] theorem finishOk_hm (r : Bool) : (finishOk r s).hm = s.hm := rfl
@[simp] theorem finishOk_hh (r : Bool) : (finishOk r s).hh = s.hh := rfl
@[simp] theorem finishOk_hs (r : Bool) : (finishOk r s).hs = s.hs := rfl
@[simp] theorem finishOk_hl (r : Bool) : (finishOk r s).hl = s.hl := rfl
@[simp] theorem finishOk_bna (r : Bool) : (finishOk r s).bna = s.bna := rfl
@[simp] theorem finishOk_bnb (r : Bool) : (finishOk r s).bnb = s.bnb := rfl
@[simp] theorem finishOk_bnm (r : Bool) : (finishOk r s).bnm = s.bnm := rfl
@[simp] theorem finishOk_bnr (r : Bool) : (finishOk r s).bnr = s.bnr := rfl
@[simp] theorem finishOk_busy (r : Bool) : (finishOk r s).busy = false := rfl
@[simp] theorem finishOk_done (r : Bool) : (finishOk r s).done = true := rfl
@[simp] theorem finishOk_err (r : Bool) : (finishOk r s).err = false := rfl
@[simp] theorem finishOk_overrun (r : Bool) : (finishOk r s).overrun = s.overrun := rfl
@[simp] theorem finishOk_errcode (r : Bool) : (finishOk r s).errcode = 0#4 := rfl
@[simp] theorem finishOk_result (r : Bool) : (finishOk r s).result = r := rfl
@[simp] theorem finishOk_doneIe (r : Bool) : (finishOk r s).doneIe = s.doneIe := rfl
@[simp] theorem finishOk_doneIp (r : Bool) : (finishOk r s).doneIp = true := rfl
@[simp] theorem finishOk_lcmd (r : Bool) : (finishOk r s).lcmd = s.lcmd := rfl
@[simp] theorem finishOk_prdata (r : Bool) : (finishOk r s).prdata = s.prdata := rfl
@[simp] theorem finishOk_draws (r : Bool) : (finishOk r s).draws = s.draws := rfl
@[simp] theorem finishOk_schedule (r : Bool) : (finishOk r s).schedule = s.schedule := rfl

/-! ### finishError -/

@[simp] theorem finishError_key (c : ErrCode) : (finishError c s).key = s.key := rfl
@[simp] theorem finishError_blkLo (c : ErrCode) : (finishError c s).blkLo = s.blkLo := rfl
@[simp] theorem finishError_blkHi (c : ErrCode) : (finishError c s).blkHi = s.blkHi := rfl
@[simp] theorem finishError_ctLo (c : ErrCode) : (finishError c s).ctLo = s.ctLo := rfl
@[simp] theorem finishError_ctHi (c : ErrCode) : (finishError c s).ctHi = s.ctHi := rfl
@[simp] theorem finishError_hm (c : ErrCode) : (finishError c s).hm = s.hm := rfl
@[simp] theorem finishError_hh (c : ErrCode) : (finishError c s).hh = s.hh := rfl
@[simp] theorem finishError_hs (c : ErrCode) : (finishError c s).hs = s.hs := rfl
@[simp] theorem finishError_hl (c : ErrCode) : (finishError c s).hl = s.hl := rfl
@[simp] theorem finishError_bna (c : ErrCode) : (finishError c s).bna = s.bna := rfl
@[simp] theorem finishError_bnb (c : ErrCode) : (finishError c s).bnb = s.bnb := rfl
@[simp] theorem finishError_bnm (c : ErrCode) : (finishError c s).bnm = s.bnm := rfl
@[simp] theorem finishError_bnr (c : ErrCode) : (finishError c s).bnr = s.bnr := rfl
@[simp] theorem finishError_busy (c : ErrCode) : (finishError c s).busy = false := rfl
@[simp] theorem finishError_done (c : ErrCode) : (finishError c s).done = true := rfl
@[simp] theorem finishError_err (c : ErrCode) : (finishError c s).err = true := rfl
@[simp] theorem finishError_overrun (c : ErrCode) : (finishError c s).overrun = s.overrun := rfl
@[simp] theorem finishError_errcode (c : ErrCode) : (finishError c s).errcode = c.code := rfl
@[simp] theorem finishError_result (c : ErrCode) : (finishError c s).result = false := rfl
@[simp] theorem finishError_doneIe (c : ErrCode) : (finishError c s).doneIe = s.doneIe := rfl
@[simp] theorem finishError_doneIp (c : ErrCode) : (finishError c s).doneIp = true := rfl
@[simp] theorem finishError_lcmd (c : ErrCode) : (finishError c s).lcmd = s.lcmd := rfl
@[simp] theorem finishError_prdata (c : ErrCode) : (finishError c s).prdata = s.prdata := rfl
@[simp] theorem finishError_draws (c : ErrCode) : (finishError c s).draws = s.draws := rfl
@[simp] theorem finishError_schedule (c : ErrCode) : (finishError c s).schedule = s.schedule := rfl

/-! ### accept -/

@[simp] theorem accept_key (v : Word) : (accept v s).key = s.key := rfl
@[simp] theorem accept_blkLo (v : Word) : (accept v s).blkLo = s.blkLo := rfl
@[simp] theorem accept_blkHi (v : Word) : (accept v s).blkHi = s.blkHi := rfl
@[simp] theorem accept_ctLo (v : Word) : (accept v s).ctLo = s.ctLo := rfl
@[simp] theorem accept_ctHi (v : Word) : (accept v s).ctHi = s.ctHi := rfl
@[simp] theorem accept_hm (v : Word) : (accept v s).hm = s.hm := rfl
@[simp] theorem accept_hh (v : Word) : (accept v s).hh = s.hh := rfl
@[simp] theorem accept_hs (v : Word) : (accept v s).hs = s.hs := rfl
@[simp] theorem accept_hl (v : Word) : (accept v s).hl = s.hl := rfl
@[simp] theorem accept_bna (v : Word) : (accept v s).bna = s.bna := rfl
@[simp] theorem accept_bnb (v : Word) : (accept v s).bnb = s.bnb := rfl
@[simp] theorem accept_bnm (v : Word) : (accept v s).bnm = s.bnm := rfl
@[simp] theorem accept_bnr (v : Word) : (accept v s).bnr = s.bnr := rfl
@[simp] theorem accept_busy (v : Word) : (accept v s).busy = true := rfl
@[simp] theorem accept_done (v : Word) : (accept v s).done = false := rfl
@[simp] theorem accept_err (v : Word) : (accept v s).err = false := rfl
@[simp] theorem accept_overrun (v : Word) : (accept v s).overrun = s.overrun := rfl
@[simp] theorem accept_errcode (v : Word) : (accept v s).errcode = 0#4 := rfl
@[simp] theorem accept_result (v : Word) : (accept v s).result = false := rfl
@[simp] theorem accept_doneIe (v : Word) : (accept v s).doneIe = s.doneIe := rfl
@[simp] theorem accept_doneIp (v : Word) : (accept v s).doneIp = s.doneIp := rfl
@[simp] theorem accept_lcmd (v : Word) : (accept v s).lcmd = v := rfl
@[simp] theorem accept_prdata (v : Word) : (accept v s).prdata = s.prdata := rfl
@[simp] theorem accept_draws (v : Word) : (accept v s).draws = s.draws := rfl
@[simp] theorem accept_schedule (v : Word) : (accept v s).schedule = s.schedule := rfl

/-! ### setOverrun -/

@[simp] theorem setOverrun_key : (setOverrun s).key = s.key := rfl
@[simp] theorem setOverrun_blkLo : (setOverrun s).blkLo = s.blkLo := rfl
@[simp] theorem setOverrun_blkHi : (setOverrun s).blkHi = s.blkHi := rfl
@[simp] theorem setOverrun_ctLo : (setOverrun s).ctLo = s.ctLo := rfl
@[simp] theorem setOverrun_ctHi : (setOverrun s).ctHi = s.ctHi := rfl
@[simp] theorem setOverrun_hm : (setOverrun s).hm = s.hm := rfl
@[simp] theorem setOverrun_hh : (setOverrun s).hh = s.hh := rfl
@[simp] theorem setOverrun_hs : (setOverrun s).hs = s.hs := rfl
@[simp] theorem setOverrun_hl : (setOverrun s).hl = s.hl := rfl
@[simp] theorem setOverrun_bna : (setOverrun s).bna = s.bna := rfl
@[simp] theorem setOverrun_bnb : (setOverrun s).bnb = s.bnb := rfl
@[simp] theorem setOverrun_bnm : (setOverrun s).bnm = s.bnm := rfl
@[simp] theorem setOverrun_bnr : (setOverrun s).bnr = s.bnr := rfl
@[simp] theorem setOverrun_busy : (setOverrun s).busy = s.busy := rfl
@[simp] theorem setOverrun_done : (setOverrun s).done = s.done := rfl
@[simp] theorem setOverrun_err : (setOverrun s).err = s.err := rfl
@[simp] theorem setOverrun_overrun : (setOverrun s).overrun = true := rfl
@[simp] theorem setOverrun_errcode : (setOverrun s).errcode = s.errcode := rfl
@[simp] theorem setOverrun_result : (setOverrun s).result = s.result := rfl
@[simp] theorem setOverrun_doneIe : (setOverrun s).doneIe = s.doneIe := rfl
@[simp] theorem setOverrun_doneIp : (setOverrun s).doneIp = s.doneIp := rfl
@[simp] theorem setOverrun_lcmd : (setOverrun s).lcmd = s.lcmd := rfl
@[simp] theorem setOverrun_prdata : (setOverrun s).prdata = s.prdata := rfl
@[simp] theorem setOverrun_draws : (setOverrun s).draws = s.draws := rfl
@[simp] theorem setOverrun_schedule : (setOverrun s).schedule = s.schedule := rfl

/-! ### clearOverrun -/

@[simp] theorem clearOverrun_key : (clearOverrun s).key = s.key := rfl
@[simp] theorem clearOverrun_blkLo : (clearOverrun s).blkLo = s.blkLo := rfl
@[simp] theorem clearOverrun_blkHi : (clearOverrun s).blkHi = s.blkHi := rfl
@[simp] theorem clearOverrun_ctLo : (clearOverrun s).ctLo = s.ctLo := rfl
@[simp] theorem clearOverrun_ctHi : (clearOverrun s).ctHi = s.ctHi := rfl
@[simp] theorem clearOverrun_hm : (clearOverrun s).hm = s.hm := rfl
@[simp] theorem clearOverrun_hh : (clearOverrun s).hh = s.hh := rfl
@[simp] theorem clearOverrun_hs : (clearOverrun s).hs = s.hs := rfl
@[simp] theorem clearOverrun_hl : (clearOverrun s).hl = s.hl := rfl
@[simp] theorem clearOverrun_bna : (clearOverrun s).bna = s.bna := rfl
@[simp] theorem clearOverrun_bnb : (clearOverrun s).bnb = s.bnb := rfl
@[simp] theorem clearOverrun_bnm : (clearOverrun s).bnm = s.bnm := rfl
@[simp] theorem clearOverrun_bnr : (clearOverrun s).bnr = s.bnr := rfl
@[simp] theorem clearOverrun_busy : (clearOverrun s).busy = s.busy := rfl
@[simp] theorem clearOverrun_done : (clearOverrun s).done = s.done := rfl
@[simp] theorem clearOverrun_err : (clearOverrun s).err = s.err := rfl
@[simp] theorem clearOverrun_overrun : (clearOverrun s).overrun = false := rfl
@[simp] theorem clearOverrun_errcode : (clearOverrun s).errcode = s.errcode := rfl
@[simp] theorem clearOverrun_result : (clearOverrun s).result = s.result := rfl
@[simp] theorem clearOverrun_doneIe : (clearOverrun s).doneIe = s.doneIe := rfl
@[simp] theorem clearOverrun_doneIp : (clearOverrun s).doneIp = s.doneIp := rfl
@[simp] theorem clearOverrun_lcmd : (clearOverrun s).lcmd = s.lcmd := rfl
@[simp] theorem clearOverrun_prdata : (clearOverrun s).prdata = s.prdata := rfl
@[simp] theorem clearOverrun_draws : (clearOverrun s).draws = s.draws := rfl
@[simp] theorem clearOverrun_schedule : (clearOverrun s).schedule = s.schedule := rfl

/-! ### setDoneIe -/

@[simp] theorem setDoneIe_key (b : Bool) : (setDoneIe b s).key = s.key := rfl
@[simp] theorem setDoneIe_blkLo (b : Bool) : (setDoneIe b s).blkLo = s.blkLo := rfl
@[simp] theorem setDoneIe_blkHi (b : Bool) : (setDoneIe b s).blkHi = s.blkHi := rfl
@[simp] theorem setDoneIe_ctLo (b : Bool) : (setDoneIe b s).ctLo = s.ctLo := rfl
@[simp] theorem setDoneIe_ctHi (b : Bool) : (setDoneIe b s).ctHi = s.ctHi := rfl
@[simp] theorem setDoneIe_hm (b : Bool) : (setDoneIe b s).hm = s.hm := rfl
@[simp] theorem setDoneIe_hh (b : Bool) : (setDoneIe b s).hh = s.hh := rfl
@[simp] theorem setDoneIe_hs (b : Bool) : (setDoneIe b s).hs = s.hs := rfl
@[simp] theorem setDoneIe_hl (b : Bool) : (setDoneIe b s).hl = s.hl := rfl
@[simp] theorem setDoneIe_bna (b : Bool) : (setDoneIe b s).bna = s.bna := rfl
@[simp] theorem setDoneIe_bnb (b : Bool) : (setDoneIe b s).bnb = s.bnb := rfl
@[simp] theorem setDoneIe_bnm (b : Bool) : (setDoneIe b s).bnm = s.bnm := rfl
@[simp] theorem setDoneIe_bnr (b : Bool) : (setDoneIe b s).bnr = s.bnr := rfl
@[simp] theorem setDoneIe_busy (b : Bool) : (setDoneIe b s).busy = s.busy := rfl
@[simp] theorem setDoneIe_done (b : Bool) : (setDoneIe b s).done = s.done := rfl
@[simp] theorem setDoneIe_err (b : Bool) : (setDoneIe b s).err = s.err := rfl
@[simp] theorem setDoneIe_overrun (b : Bool) : (setDoneIe b s).overrun = s.overrun := rfl
@[simp] theorem setDoneIe_errcode (b : Bool) : (setDoneIe b s).errcode = s.errcode := rfl
@[simp] theorem setDoneIe_result (b : Bool) : (setDoneIe b s).result = s.result := rfl
@[simp] theorem setDoneIe_doneIe (b : Bool) : (setDoneIe b s).doneIe = b := rfl
@[simp] theorem setDoneIe_doneIp (b : Bool) : (setDoneIe b s).doneIp = s.doneIp := rfl
@[simp] theorem setDoneIe_lcmd (b : Bool) : (setDoneIe b s).lcmd = s.lcmd := rfl
@[simp] theorem setDoneIe_prdata (b : Bool) : (setDoneIe b s).prdata = s.prdata := rfl
@[simp] theorem setDoneIe_draws (b : Bool) : (setDoneIe b s).draws = s.draws := rfl
@[simp] theorem setDoneIe_schedule (b : Bool) : (setDoneIe b s).schedule = s.schedule := rfl

/-! ### clearDoneIp -/

@[simp] theorem clearDoneIp_key : (clearDoneIp s).key = s.key := rfl
@[simp] theorem clearDoneIp_blkLo : (clearDoneIp s).blkLo = s.blkLo := rfl
@[simp] theorem clearDoneIp_blkHi : (clearDoneIp s).blkHi = s.blkHi := rfl
@[simp] theorem clearDoneIp_ctLo : (clearDoneIp s).ctLo = s.ctLo := rfl
@[simp] theorem clearDoneIp_ctHi : (clearDoneIp s).ctHi = s.ctHi := rfl
@[simp] theorem clearDoneIp_hm : (clearDoneIp s).hm = s.hm := rfl
@[simp] theorem clearDoneIp_hh : (clearDoneIp s).hh = s.hh := rfl
@[simp] theorem clearDoneIp_hs : (clearDoneIp s).hs = s.hs := rfl
@[simp] theorem clearDoneIp_hl : (clearDoneIp s).hl = s.hl := rfl
@[simp] theorem clearDoneIp_bna : (clearDoneIp s).bna = s.bna := rfl
@[simp] theorem clearDoneIp_bnb : (clearDoneIp s).bnb = s.bnb := rfl
@[simp] theorem clearDoneIp_bnm : (clearDoneIp s).bnm = s.bnm := rfl
@[simp] theorem clearDoneIp_bnr : (clearDoneIp s).bnr = s.bnr := rfl
@[simp] theorem clearDoneIp_busy : (clearDoneIp s).busy = s.busy := rfl
@[simp] theorem clearDoneIp_done : (clearDoneIp s).done = s.done := rfl
@[simp] theorem clearDoneIp_err : (clearDoneIp s).err = s.err := rfl
@[simp] theorem clearDoneIp_overrun : (clearDoneIp s).overrun = s.overrun := rfl
@[simp] theorem clearDoneIp_errcode : (clearDoneIp s).errcode = s.errcode := rfl
@[simp] theorem clearDoneIp_result : (clearDoneIp s).result = s.result := rfl
@[simp] theorem clearDoneIp_doneIe : (clearDoneIp s).doneIe = s.doneIe := rfl
@[simp] theorem clearDoneIp_doneIp : (clearDoneIp s).doneIp = false := rfl
@[simp] theorem clearDoneIp_lcmd : (clearDoneIp s).lcmd = s.lcmd := rfl
@[simp] theorem clearDoneIp_prdata : (clearDoneIp s).prdata = s.prdata := rfl
@[simp] theorem clearDoneIp_draws : (clearDoneIp s).draws = s.draws := rfl
@[simp] theorem clearDoneIp_schedule : (clearDoneIp s).schedule = s.schedule := rfl

/-! ### resetBlock -/

@[simp] theorem resetBlock_key : (resetBlock s).key = State.reset.key := rfl
@[simp] theorem resetBlock_blkLo : (resetBlock s).blkLo = State.reset.blkLo := rfl
@[simp] theorem resetBlock_blkHi : (resetBlock s).blkHi = State.reset.blkHi := rfl
@[simp] theorem resetBlock_ctLo : (resetBlock s).ctLo = State.reset.ctLo := rfl
@[simp] theorem resetBlock_ctHi : (resetBlock s).ctHi = State.reset.ctHi := rfl
@[simp] theorem resetBlock_hm : (resetBlock s).hm = State.reset.hm := rfl
@[simp] theorem resetBlock_hh : (resetBlock s).hh = State.reset.hh := rfl
@[simp] theorem resetBlock_hs : (resetBlock s).hs = State.reset.hs := rfl
@[simp] theorem resetBlock_hl : (resetBlock s).hl = State.reset.hl := rfl
@[simp] theorem resetBlock_bna : (resetBlock s).bna = State.reset.bna := rfl
@[simp] theorem resetBlock_bnb : (resetBlock s).bnb = State.reset.bnb := rfl
@[simp] theorem resetBlock_bnm : (resetBlock s).bnm = State.reset.bnm := rfl
@[simp] theorem resetBlock_bnr : (resetBlock s).bnr = State.reset.bnr := rfl
@[simp] theorem resetBlock_busy : (resetBlock s).busy = State.reset.busy := rfl
@[simp] theorem resetBlock_done : (resetBlock s).done = State.reset.done := rfl
@[simp] theorem resetBlock_err : (resetBlock s).err = State.reset.err := rfl
@[simp] theorem resetBlock_overrun : (resetBlock s).overrun = State.reset.overrun := rfl
@[simp] theorem resetBlock_errcode : (resetBlock s).errcode = State.reset.errcode := rfl
@[simp] theorem resetBlock_result : (resetBlock s).result = State.reset.result := rfl
@[simp] theorem resetBlock_doneIe : (resetBlock s).doneIe = State.reset.doneIe := rfl
@[simp] theorem resetBlock_doneIp : (resetBlock s).doneIp = State.reset.doneIp := rfl
@[simp] theorem resetBlock_lcmd : (resetBlock s).lcmd = State.reset.lcmd := rfl
@[simp] theorem resetBlock_prdata : (resetBlock s).prdata = State.reset.prdata := rfl
@[simp] theorem resetBlock_draws : (resetBlock s).draws = s.draws := rfl
@[simp] theorem resetBlock_schedule : (resetBlock s).schedule = s.schedule := rfl

@[simp] theorem resetBlock_toArchState : (resetBlock s).toArchState = ArchState.reset := rfl

/-! ### drawn -/

@[simp] theorem drawn_toArchState : (drawn s).toArchState = s.toArchState := rfl
@[simp] theorem drawn_prdata : (drawn s).prdata = s.prdata := rfl
@[simp] theorem drawn_draws : (drawn s).draws = s.draws + 1 := rfl
@[simp] theorem drawn_schedule : (drawn s).schedule = s.schedule := rfl

/-! ### busRead -/

@[simp] theorem busRead_toArchState (off : Offset) :
    (busRead off s).toArchState = s.toArchState := rfl

@[simp] theorem busRead_key (off : Offset) : (busRead off s).key = s.key := rfl
@[simp] theorem busRead_blkLo (off : Offset) : (busRead off s).blkLo = s.blkLo := rfl
@[simp] theorem busRead_blkHi (off : Offset) : (busRead off s).blkHi = s.blkHi := rfl
@[simp] theorem busRead_ctLo (off : Offset) : (busRead off s).ctLo = s.ctLo := rfl
@[simp] theorem busRead_ctHi (off : Offset) : (busRead off s).ctHi = s.ctHi := rfl
@[simp] theorem busRead_hm (off : Offset) : (busRead off s).hm = s.hm := rfl
@[simp] theorem busRead_hh (off : Offset) : (busRead off s).hh = s.hh := rfl
@[simp] theorem busRead_hs (off : Offset) : (busRead off s).hs = s.hs := rfl
@[simp] theorem busRead_hl (off : Offset) : (busRead off s).hl = s.hl := rfl
@[simp] theorem busRead_bna (off : Offset) : (busRead off s).bna = s.bna := rfl
@[simp] theorem busRead_bnb (off : Offset) : (busRead off s).bnb = s.bnb := rfl
@[simp] theorem busRead_bnm (off : Offset) : (busRead off s).bnm = s.bnm := rfl
@[simp] theorem busRead_bnr (off : Offset) : (busRead off s).bnr = s.bnr := rfl
@[simp] theorem busRead_busy (off : Offset) : (busRead off s).busy = s.busy := rfl
@[simp] theorem busRead_done (off : Offset) : (busRead off s).done = s.done := rfl
@[simp] theorem busRead_err (off : Offset) : (busRead off s).err = s.err := rfl
@[simp] theorem busRead_overrun (off : Offset) : (busRead off s).overrun = s.overrun := rfl
@[simp] theorem busRead_errcode (off : Offset) : (busRead off s).errcode = s.errcode := rfl
@[simp] theorem busRead_result (off : Offset) : (busRead off s).result = s.result := rfl
@[simp] theorem busRead_doneIe (off : Offset) : (busRead off s).doneIe = s.doneIe := rfl
@[simp] theorem busRead_doneIp (off : Offset) : (busRead off s).doneIp = s.doneIp := rfl
@[simp] theorem busRead_lcmd (off : Offset) : (busRead off s).lcmd = s.lcmd := rfl
@[simp] theorem busRead_prdata (off : Offset) : (busRead off s).prdata = readData off s := rfl
@[simp] theorem busRead_draws (off : Offset) : (busRead off s).draws = if readIsFree off s then s.draws + 1 else s.draws := rfl
@[simp] theorem busRead_schedule (off : Offset) : (busRead off s).schedule = s.schedule := rfl

end Sys2Proof.Machine
end

