-- ==== Sys2Proof/Laws/BnRegister.lean ====
section
/-! SUPPORT. Numbers in the W-bit bignum registers: what is stored reads back, for every W (00_scope
R5, 42_bignum R151). -/

namespace Sys2Proof.Laws

open Sys2Proof Sys2Proof.Machine

/-- The range of W/32 (00_scope R5). -/
theorem bnWords_range : 32 ≤ Config.bnWords ∧ Config.bnWords ≤ 256 := by
  unfold Config.bnWords; omega

/-- A number of at most 1024 bits is below 2^W. -/
theorem lt_two_pow_bnWidth {n : Nat} (k : Nat) (hk : k ≤ 1024) (h : n < 2 ^ k) :
    n < 2 ^ Config.bnWidth :=
  Nat.lt_of_lt_of_le h (Nat.pow_le_pow_right (by decide) (by
    have := bnWords_range.1
    unfold Config.bnWidth; omega))

/-- A number below 2^W is held whole. -/
theorem toNat_bnInt {n : Nat} (h : n < 2 ^ Config.bnWidth) :
    (BitVec.ofNat Config.bnWidth n).toNat = n := by
  rw [BitVec.toNat_ofNat, Nat.mod_eq_of_lt h]

/-- A result below 2^W is stored whole (42_bignum R151). -/
theorem writeBnr_toNat {r : Nat} (s : State) (h : r < 2 ^ Config.bnWidth) :
    (writeBnr r s).bnr.toNat = r := toNat_bnInt h

/-- A result below some bignum register's value is stored whole (42_bignum R151). -/
theorem writeBnr_toNat_of_lt {r : Nat} (s : State) (m : BnInt) (h : r < m.toNat) :
    (writeBnr r s).bnr.toNat = r := writeBnr_toNat s (Nat.lt_trans h m.isLt)

/-- A number below 10000, such as a small prime, is stored whole (42_bignum R151, R160). -/
theorem writeBnr_toNat_small {r : Nat} (s : State) (h : r < 10000) :
    (writeBnr r s).bnr.toNat = r :=
  writeBnr_toNat s (lt_two_pow_bnWidth 14 (by decide) (Nat.lt_trans h (by decide)))

/-! ### What each bignum command does, case by case -/

/-- BN_MODEXP with M = 0 (42_bignum R152). -/
theorem execBnModexp_zero (s : State) (h : opM s = 0) :
    execBnModexp s = .next (finishError .invalidParam s) := by simp [execBnModexp, h]

/-- BN_MODEXP with M ≠ 0 (42_bignum R152). -/
theorem execBnModexp_ok (s : State) (h : opM s ≠ 0) :
    execBnModexp s = .next (finishOk false (writeBnr (powMod (opA s) (opB s) (opM s)) s)) := by
  simp [execBnModexp, h]

/-- BN_MODINV with M = 0 (42_bignum R154). -/
theorem execBnModinv_zero (s : State) (h : opM s = 0) :
    execBnModinv s = .next (finishError .invalidParam s) := by simp [execBnModinv, h]

/-- BN_MODINV without an inverse (42_bignum R154). -/
theorem execBnModinv_none (s : State) (h : opM s ≠ 0) (hg : Nat.gcd (opA s) (opM s) ≠ 1) :
    execBnModinv s = .next (finishError .noInverse s) := by simp [execBnModinv, h, hg]

/-- BN_MODINV with an inverse (42_bignum R154). -/
theorem execBnModinv_ok (s : State) (h : opM s ≠ 0) (hg : Nat.gcd (opA s) (opM s) = 1) :
    execBnModinv s = .next (finishOk false (writeBnr (inverseMod (opA s) (opM s)) s)) := by
  simp [execBnModinv, h, hg]

/-- BN_MR_ROUND with legal operands (42_bignum R157). -/
theorem execBnMrRound_ok (s : State) (h : roundOperandsLegal (opM s) (opA s) = true) :
    execBnMrRound s = .next (finishOk (roundPasses (opM s) (opA s)) s) := by
  simp [execBnMrRound, h]

/-- BN_MR_ROUND with an operand out of range (42_bignum R157). -/
theorem execBnMrRound_error (s : State) (h : roundOperandsLegal (opM s) (opA s) = false) :
    execBnMrRound s = .next (finishError .invalidParam s) := by simp [execBnMrRound, h]

/-- BN_TRIALDIV of 0 and 1 (42_bignum R160). -/
theorem execBnTrialdiv_small (s : State) (h : opM s < 2) :
    execBnTrialdiv s = .next (finishOk false (writeBnr 0 s)) := by simp [execBnTrialdiv, h]

/-- BN_TRIALDIV without a small factor (42_bignum R160). -/
theorem execBnTrialdiv_none (s : State) (h : ¬ opM s < 2) (hp : smallFactor? (opM s) = none) :
    execBnTrialdiv s = .next (finishOk true (writeBnr 0 s)) := by simp [execBnTrialdiv, h, hp]

/-- BN_TRIALDIV with a small factor (42_bignum R160). -/
theorem execBnTrialdiv_some (s : State) (p : Nat) (h : ¬ opM s < 2)
    (hp : smallFactor? (opM s) = some p) :
    execBnTrialdiv s = .next (finishOk false (writeBnr p s)) := by simp [execBnTrialdiv, h, hp]

end Sys2Proof.Laws
end

