-- ==== Sys2Proof/Laws/Bus.lean ====
section
/-! SUPPORT. What a transfer, a read and a write of the window do, said once (20_memory R61 to R66,
10_state R22). -/

namespace Sys2Proof.Laws

open Sys2Proof Sys2Proof.Machine

/-! ### The fixed offsets of the map (10_state R22) -/

@[simp] theorem regAt_id : regAt 0x0000#13 = .id := rfl
@[simp] theorem regAt_features : regAt 0x0004#13 = .features := rfl
@[simp] theorem regAt_cmd : regAt 0x0008#13 = .cmd := rfl
@[simp] theorem regAt_status : regAt 0x000C#13 = .status := rfl
@[simp] theorem regAt_irqEn : regAt 0x0010#13 = .irqEn := rfl
@[simp] theorem regAt_irqPend : regAt 0x0014#13 = .irqPend := rfl

/-! ### Transfers -/

/-- Which transfers are accepted (20_memory R61, R75). -/
theorem accepted_iff (t : Transfer) : accepted t = true ↔
    t.width = .bits32 ∧ t.off.toNat % 4 = 0 ∧ (t.write = true → t.strb = 0b1111#4) := by
  cases h : t.write <;> simp [accepted, h, and_assoc]

/-- A transfer the block refuses is a bus error (60_exceptions R187). -/
theorem transfer_refused (t : Transfer) (s : State) (h : accepted t = false) :
    transfer t s = .fault .busError := by simp [transfer, h]

/-- An aligned 32-bit read is accepted. -/
theorem transfer_read (off : Offset) (s : State) (h : off.toNat % 4 = 0) :
    transfer (.read off) s = .next (busRead off s) := by
  simp [transfer, accepted, Transfer.read, h]

/-- An aligned 32-bit write with all strobes is accepted. -/
theorem transfer_writeWord (off : Offset) (v : Word) (s : State) (h : off.toNat % 4 = 0) :
    transfer (.writeWord off v) s = .next (busWrite off v s) := by
  simp [transfer, accepted, Transfer.writeWord, h]

/-! ### Reads -/

/-- A read that is no free draw gives the register's value (20_memory R63). -/
theorem readData_eq (off : Offset) (s : State) (h : readIsFree off s = false) :
    readData off s = regValue (regAt off) s := by simp [readData, h]

/-- An idle block has no free draws. -/
theorem readIsFree_idle (off : Offset) (s : State) (h : s.busy = false) :
    readIsFree off s = false := by simp [readIsFree, h]

/-- Registers other than the output registers are no free draws. -/
theorem readIsFree_input (off : Offset) (s : State) (h : (regAt off).isOutput = false) :
    readIsFree off s = false := by simp [readIsFree, h]

/-- A read of an idle block gives the register's value. -/
theorem readData_idle (off : Offset) (s : State) (h : s.busy = false) :
    readData off s = regValue (regAt off) s := readData_eq off s (readIsFree_idle off s h)

/-! ### Writes -/

@[simp] theorem writeReg_status (v : Word) (s : State) :
    writeReg .status v s = if v[3] then clearOverrun s else s := rfl

@[simp] theorem writeReg_irqEn (v : Word) (s : State) :
    writeReg .irqEn v s = setDoneIe v[0] s := rfl

@[simp] theorem writeReg_irqPend (v : Word) (s : State) :
    writeReg .irqPend v s = if v[0] then clearDoneIp s else s := rfl

@[simp] theorem writeReg_cmd (v : Word) (s : State) :
    writeReg .cmd v s = if s.busy then setOverrun s else accept v s := rfl

/-- A write to a data register (20_memory R64, R65). -/
theorem writeReg_data (r : Reg) (v : Word) (s : State) (h : r.isData = true) :
    writeReg r v s = if s.busy then setOverrun s else writeData r v s := by
  cases r <;> simp_all [writeReg, Reg.isData]

/-- A write to a register that is neither CMD nor a data register nor one of the three status
registers is ignored (10_state R29). -/
theorem writeReg_ignored (r : Reg) (v : Word) (s : State) (h : r.isData = false)
    (hc : r ≠ .cmd) (hs : r ≠ .status) (he : r ≠ .irqEn) (hp : r ≠ .irqPend) :
    writeReg r v s = s := by
  cases r <;> simp_all [writeReg, Reg.isData]

end Sys2Proof.Laws
end

