-- ==== Sys2Proof/Laws/PerInstr.lean ====
section
/-! SUPPORT. Statements about every command, one lemma per constructor. -/

namespace Sys2Proof.Laws.AssemblerReads

/-- The assembler reads a well-formed command back from its mnemonic and operand, and refuses an
ill-formed one (30_encoding R88). -/
def Statement (i : Instr) : Prop :=
  assemble i.mnemonic i.operand? = if i.wellFormed then some i else none

theorem cipherEnc : Statement .cipherEnc := rfl
theorem hashInit : Statement .hashInit := rfl
theorem hashCompress : Statement .hashCompress := rfl
theorem hashBlock : Statement .hashBlock := rfl
theorem hashFinal (nb : BitVec 6) : Statement (.hashFinal nb) := by
  simp [Statement, assemble, Instr.mnemonic, Instr.operand?, Instr.wellFormed]
theorem bnModexp : Statement .bnModexp := rfl
theorem bnModinv : Statement .bnModinv := rfl
theorem bnMrRound : Statement .bnMrRound := rfl
theorem bnTrialdiv : Statement .bnTrialdiv := rfl

end Sys2Proof.Laws.AssemblerReads
end

