-- ==== Sys2Proof/Laws/Step.lean ====
section
/-! SUPPORT. What a transfer, a command and a step can do, said once each. -/

namespace Sys2Proof.Laws

open Sys2Proof Sys2Proof.Machine

/-- What a command's completion step can make of a state: an error completion, or a success after
writing the result registers of one engine. -/
def CompletionOf (s t : State) : Prop :=
  (∃ c, t = finishError c s) ∨
  (∃ r, t = finishOk r s) ∨
  (∃ c, t = finishOk false (writeCt c s)) ∨
  (∃ h sg l, t = finishOk false (writeHash h sg l s)) ∨
  (∃ r b, t = finishOk r (writeBnr b s))

/-- Every command answers a next state, and one of those five. -/
theorem exec_spec (i : Instr) (s : State) : ∃ t, exec i s = .next t ∧ CompletionOf s t := by
  cases i with
  | cipherEnc => exact ⟨_, rfl, .inr (.inr (.inl ⟨_, rfl⟩))⟩
  | hashInit => exact ⟨_, rfl, .inr (.inr (.inr (.inl ⟨_, _, _, rfl⟩)))⟩
  | hashCompress => exact ⟨_, rfl, .inr (.inr (.inr (.inl ⟨_, _, _, rfl⟩)))⟩
  | hashBlock => exact ⟨_, rfl, .inr (.inr (.inr (.inl ⟨_, _, _, rfl⟩)))⟩
  | hashFinal nb =>
    simp only [exec, execHashFinal]
    split
    · exact ⟨_, rfl, .inr (.inr (.inr (.inl ⟨_, _, _, rfl⟩)))⟩
    · exact ⟨_, rfl, .inl ⟨_, rfl⟩⟩
  | bnModexp =>
    simp only [exec, execBnModexp]
    split
    · exact ⟨_, rfl, .inl ⟨_, rfl⟩⟩
    · exact ⟨_, rfl, .inr (.inr (.inr (.inr ⟨_, _, rfl⟩)))⟩
  | bnModinv =>
    simp only [exec, execBnModinv]
    split
    · exact ⟨_, rfl, .inl ⟨_, rfl⟩⟩
    · split
      · exact ⟨_, rfl, .inl ⟨_, rfl⟩⟩
      · exact ⟨_, rfl, .inr (.inr (.inr (.inr ⟨_, _, rfl⟩)))⟩
  | bnMrRound =>
    simp only [exec, execBnMrRound]
    split
    · exact ⟨_, rfl, .inr (.inl ⟨_, rfl⟩)⟩
    · exact ⟨_, rfl, .inl ⟨_, rfl⟩⟩
  | bnTrialdiv =>
    simp only [exec, execBnTrialdiv]
    split
    · exact ⟨_, rfl, .inr (.inr (.inr (.inr ⟨_, _, rfl⟩)))⟩
    · split
      · exact ⟨_, rfl, .inr (.inr (.inr (.inr ⟨_, _, rfl⟩)))⟩
      · exact ⟨_, rfl, .inr (.inr (.inr (.inr ⟨_, _, rfl⟩)))⟩

/-- The completion step always answers a next state, legal word or not. -/
theorem completeStep_spec (s : State) : ∃ t, completeStep s = .next t ∧ CompletionOf s t := by
  unfold completeStep
  split
  · exact ⟨_, rfl, .inl ⟨_, rfl⟩⟩
  · exact exec_spec _ s

/-- A transfer that answers a next state was accepted, and wrote or read. -/
theorem transfer_next {t : Transfer} {s s' : State} (h : transfer t s = .next s') :
    accepted t = true ∧
      ((t.write = true ∧ s' = busWrite t.off t.data s) ∨
        (t.write = false ∧ s' = busRead t.off s)) := by
  unfold transfer at h
  split at h
  · next ha =>
    refine ⟨ha, ?_⟩
    cases hw : t.write <;> simp [hw] at h
    · exact .inr ⟨rfl, h.symm⟩
    · exact .inl ⟨rfl, h.symm⟩
  · cases h

/-- A write to anything but CMD and the three status registers: dropped with OVERRUN, stored, or
ignored (20_memory R64, R65). -/
theorem dataWrite_cases (r : Reg) (v : Word) (s t : State)
    (ht : t = if r.isData then (if s.busy then setOverrun s else writeData r v s) else s) :
    t = s ∨ (s.busy = true ∧ r.isData = true ∧ t = setOverrun s) ∨
      (s.busy = false ∧ r.isData = true ∧ t = writeData r v s) := by
  cases hd : r.isData <;> cases hb : s.busy <;> simp [hd, hb] at ht <;> simp [ht]

/-- Everything a register write can do (20_memory R64, R65). -/
theorem writeReg_cases (r : Reg) (v : Word) (s : State) :
    (writeReg r v s = s) ∨
    (r = .status ∧ v[3] = true ∧ writeReg r v s = clearOverrun s) ∨
    (r = .irqEn ∧ writeReg r v s = setDoneIe v[0] s) ∨
    (r = .irqPend ∧ v[0] = true ∧ writeReg r v s = clearDoneIp s) ∨
    (s.busy = true ∧ (r = .cmd ∨ r.isData = true) ∧ writeReg r v s = setOverrun s) ∨
    (s.busy = false ∧ r = .cmd ∧ writeReg r v s = accept v s) ∨
    (s.busy = false ∧ r.isData = true ∧ writeReg r v s = writeData r v s) := by
  have data : ∀ q : Reg, writeReg q v s = (if q.isData then
      (if s.busy then setOverrun s else writeData q v s) else s) →
      (writeReg q v s = s) ∨
      (s.busy = true ∧ q.isData = true ∧ writeReg q v s = setOverrun s) ∨
      (s.busy = false ∧ q.isData = true ∧ writeReg q v s = writeData q v s) :=
    fun q hq => dataWrite_cases q v s _ hq
  cases r with
  | status => cases h : v[3] <;> simp [writeReg, h]
  | irqEn => simp [writeReg]
  | irqPend => cases h : v[0] <;> simp [writeReg, h]
  | cmd => cases hb : s.busy <;> simp [writeReg, hb]
  | id => simp [writeReg, Reg.isData]
  | features => simp [writeReg, Reg.isData]
  | ctLo => simp [writeReg, Reg.isData]
  | ctHi => simp [writeReg, Reg.isData]
  | bnr j => simp [writeReg, Reg.isData]
  | reserved => simp [writeReg, Reg.isData]
  | key j => rcases data (.key j) rfl with h | ⟨h1, h2, h⟩ | ⟨h1, h2, h⟩ <;> simp [*]
  | blkLo => rcases data .blkLo rfl with h | ⟨h1, h2, h⟩ | ⟨h1, h2, h⟩ <;> simp [*]
  | blkHi => rcases data .blkHi rfl with h | ⟨h1, h2, h⟩ | ⟨h1, h2, h⟩ <;> simp [*]
  | hm j => rcases data (.hm j) rfl with h | ⟨h1, h2, h⟩ | ⟨h1, h2, h⟩ <;> simp [*]
  | hh j => rcases data (.hh j) rfl with h | ⟨h1, h2, h⟩ | ⟨h1, h2, h⟩ <;> simp [*]
  | hs j => rcases data (.hs j) rfl with h | ⟨h1, h2, h⟩ | ⟨h1, h2, h⟩ <;> simp [*]
  | hl j => rcases data (.hl j) rfl with h | ⟨h1, h2, h⟩ | ⟨h1, h2, h⟩ <;> simp [*]
  | bna j => rcases data (.bna j) rfl with h | ⟨h1, h2, h⟩ | ⟨h1, h2, h⟩ <;> simp [*]
  | bnb j => rcases data (.bnb j) rfl with h | ⟨h1, h2, h⟩ | ⟨h1, h2, h⟩ <;> simp [*]
  | bnm j => rcases data (.bnm j) rfl with h | ⟨h1, h2, h⟩ | ⟨h1, h2, h⟩ <;> simp [*]

/-- Everything a scheduled step of the engine can do: nothing when idle, else the completion step or
an internal one. -/
theorem engineMove_cases {s t : State} (h : engineMove s = .next t) :
    (s.busy = false ∧ t = s) ∨
    (s.busy = true ∧ completeStep (drawn s) = .next t) ∨
    (s.busy = true ∧ t = drawn s) := by
  unfold engineMove at h
  split at h
  · next hb =>
    split at h
    · exact .inr (.inl ⟨hb, h⟩)
    · exact .inr (.inr ⟨hb, (Host.Outcome.next.inj h).symm⟩)
  · next hb => exact .inl ⟨by simpa using hb, (Host.Outcome.next.inj h).symm⟩

/-- One step: the engine's when nothing is scheduled, else the first event. -/
theorem step_cases {s t : State} (h : step s = .next t) :
    (s.schedule = [] ∧ engineStep s = .next t) ∨
    (∃ tr rest, s.schedule = .host tr :: rest ∧
      transfer tr { s with schedule := rest } = .next t) ∨
    (∃ rest, s.schedule = .engine :: rest ∧ engineMove { s with schedule := rest } = .next t) ∨
    (∃ rest, s.schedule = .reset :: rest ∧ t = resetBlock { s with schedule := rest }) := by
  unfold step at h
  split at h
  · next hs => exact .inl ⟨hs, h⟩
  · next e rest hs =>
    cases e with
    | host tr => exact .inr (.inl ⟨tr, rest, hs, h⟩)
    | engine => exact .inr (.inr (.inl ⟨rest, hs, h⟩))
    | reset =>
      refine .inr (.inr (.inr ⟨rest, hs, ?_⟩))
      simp only [perform] at h
      exact (Host.Outcome.next.inj h).symm

end Sys2Proof.Laws
end

