-- ==== Sys2Proof/Laws/Window.lean ====
section
/-! SUPPORT. Words of multi-word values: what a read after a write of one word gives. -/

namespace Sys2Proof.Laws

open Sys2Proof Sys2Proof.Machine

/-- Bit `i` of word `j`. -/
theorem getLsbD_wordOf {w : Nat} (v : BitVec w) (j i : Nat) :
    (wordOf v j).getLsbD i = (decide (i < 32) && v.getLsbD (32 * j + i)) := by
  simp [wordOf]

/-- Bit `i` after word `j` was replaced. -/
theorem getLsbD_setWord {w : Nat} (v : BitVec w) (j : Nat) (x : Word) (i : Nat) (hi : i < w) :
    (setWord v j x).getLsbD i =
      if 32 * j ≤ i ∧ i < 32 * j + 32 then x.getLsbD (i - 32 * j) else v.getLsbD i := by
  have ht : (BitVec.allOnes 32).getLsbD (i - 32 * j) = decide (i - 32 * j < 32) :=
    BitVec.getLsbD_allOnes
  simp only [setWord, BitVec.getLsbD_or, BitVec.getLsbD_and, BitVec.getLsbD_not,
    BitVec.getLsbD_shiftLeft, BitVec.getLsbD_setWidth, hi, ht]
  by_cases h1 : i < 32 * j
  · have h2 : ¬ (32 * j ≤ i ∧ i < 32 * j + 32) := by omega
    simp [h1, h2]
  · by_cases h3 : i < 32 * j + 32
    · have h2 : 32 * j ≤ i ∧ i < 32 * j + 32 := by omega
      have h4 : i - 32 * j < 32 := by omega
      have h5 : i - 32 * j < w := by omega
      simp [h1, h2, h4, h5]
    · have h2 : ¬ (32 * j ≤ i ∧ i < 32 * j + 32) := by omega
      have h4 : ¬ (i - 32 * j < 32) := by omega
      have h5 : i - 32 * j < w := by omega
      have h6 : x.getLsbD (i - 32 * j) = false := BitVec.getLsbD_of_ge x _ (by omega)
      simp [h1, h2, h4, h5, h6]

/-- The word just written reads back. -/
theorem wordOf_setWord_same {w : Nat} (v : BitVec w) (j : Nat) (x : Word) (h : 32 * j + 32 ≤ w) :
    wordOf (setWord v j x) j = x := by
  apply BitVec.eq_of_getLsbD_eq
  intro i hi
  rw [getLsbD_wordOf, getLsbD_setWord _ _ _ _ (by omega)]
  simp [hi]

/-- Every other word reads as before. -/
theorem wordOf_setWord_other {w : Nat} (v : BitVec w) (j k : Nat) (x : Word) (hjk : j ≠ k)
    (h : 32 * k + 32 ≤ w) : wordOf (setWord v j x) k = wordOf v k := by
  apply BitVec.eq_of_getLsbD_eq
  intro i hi
  rw [getLsbD_wordOf, getLsbD_wordOf, getLsbD_setWord _ _ _ _ (by omega)]
  have : ¬ (32 * j ≤ 32 * k + i ∧ 32 * k + i < 32 * j + 32) := by omega
  simp [this]

/-- A bignum word just written reads back, if it exists (10_state R36). -/
theorem bnWord_bnSetWord_same (r : BnInt) (j : Fin 256) (v : Word) (h : j.val < Config.bnWords) :
    bnWord (bnSetWord r j v) j = v := by
  simp only [bnWord, bnSetWord, h, if_true]
  exact wordOf_setWord_same r j.val v (by unfold Config.bnWidth; omega)

/-- Every other bignum word reads as before. -/
theorem bnWord_bnSetWord_other (r : BnInt) (j k : Fin 256) (v : Word) (hjk : j ≠ k) :
    bnWord (bnSetWord r j v) k = bnWord r k := by
  have hne : j.val ≠ k.val := fun h => hjk (Fin.ext h)
  unfold bnWord bnSetWord
  split
  · next hk =>
    split
    · exact wordOf_setWord_other r j.val k.val v hne (by unfold Config.bnWidth; omega)
    · rfl
  · rfl

end Sys2Proof.Laws
end

