-- ==== Sys2Proof/Tests/Slice0.lean ====
section
/-! SUPPORT. Small tests, with values from the spec's tables and vectors (95_test_vectors), and for
each statement with hypotheses a concrete state and operands that meet them. -/

namespace Sys2Proof.Tests

open Sys2Proof Sys2Proof.Machine Sys2Proof.Laws

/-! ### Helpers -/

/-- The outcome is a next state, and that state meets `p`. -/
def endsIn (o : Host.Outcome State Fault Refusal) (p : State → Bool) : Bool :=
  match o with
  | .next t => p t
  | .fault _ => false
  | .refused _ => false

/-- The reset state with the hash block and context set. -/
def hashing (hh hs hl hm : Wide) : State :=
  { State.reset with hh := hh, hs := hs, hl := hl, hm := hm }

/-- A number of at most 64 bits as the contents of a bignum register, whatever W is. -/
def num (n : Nat) (h : n < 2 ^ 64 := by decide) : BnInt :=
  BitVec.ofNatLT n (lt_two_pow_bnWidth 64 (by decide) h)

/-- The reset state with the bignum operands A, B and M set. -/
def bignum (a b m : BnInt) : State := { State.reset with bna := a, bnb := b, bnm := m }

/-- The reset state with a command in progress. -/
def busyWith (w : Word) : State := { State.reset with busy := true, lcmd := w }

/-- A state with one event scheduled. -/
def scheduled (e : Event) (s : State) : State := { s with schedule := [e] }

/-- The keys of vector V-C10. -/
def keysC10 : Vector Word 8 :=
  #v[0x01234567#32, 0x89ABCDEF#32, 0xFEDCBA98#32, 0x76543210#32,
     0x00112233#32, 0x44556677#32, 0x8899AABB#32, 0xCCDDEEFF#32]

/-- BN_TRIALDIV of 4 in progress. -/
def dividingFour : State :=
  { bignum (num 0) (num 0) (num 4) with busy := true, lcmd := 0x23#32 }

/-- The arm of BN_TRIALDIV, so that no test unfolds the list of primes. -/
theorem exec_bnTrialdiv (s : State) : exec .bnTrialdiv s = execBnTrialdiv s := rfl

/-- STATUS after a result without RESULT: DONE alone. -/
theorem statusWord_after (r : Nat) {s : State} (h : s.overrun = false) :
    statusWord (finishOk false (writeBnr r s)) = 2#32 := by
  unfold statusWord; simp [h]

/-! ### Well-formedness -/

/-- 30_encoding R82: the byte counts 33 to 63 are illegal. -/
theorem test_wellFormed_refuses_33 : (Instr.hashFinal 33#6).wellFormed = false := by decide

theorem test_wellFormed_refuses_63 : (Instr.hashFinal 63#6).wellFormed = false := by decide

theorem test_wellFormed_admits_32 : (Instr.hashFinal 32#6).wellFormed = true := by decide

/-! ### Decoding: words written bit by bit from R81 and R83 (RSV, NB, OP) -/

theorem test_decode_cipherEnc :
    decode 0b000000000000000000_000000_00000001#32 = .ok .cipherEnc := by decide

theorem test_decode_hashInit :
    decode 0b000000000000000000_000000_00010000#32 = .ok .hashInit := by decide

theorem test_decode_hashCompress :
    decode 0b000000000000000000_000000_00010001#32 = .ok .hashCompress := by decide

theorem test_decode_hashBlock :
    decode 0b000000000000000000_000000_00010010#32 = .ok .hashBlock := by decide

theorem test_decode_hashFinal_18 :
    decode 0b000000000000000000_010010_00010011#32 = .ok (.hashFinal 18#6) := by decide

theorem test_decode_bnModexp :
    decode 0b000000000000000000_000000_00100000#32 = .ok .bnModexp := by decide

theorem test_decode_bnModinv :
    decode 0b000000000000000000_000000_00100001#32 = .ok .bnModinv := by decide

theorem test_decode_bnMrRound :
    decode 0b000000000000000000_000000_00100010#32 = .ok .bnMrRound := by decide

theorem test_decode_bnTrialdiv :
    decode 0b000000000000000000_000000_00100011#32 = .ok .bnTrialdiv := by decide

/-- V-E4 to V-E12: the Illegal words. -/
theorem test_decode_illegal :
    decode 0x00002113#32 = .error (.byteCountAbove32 33#6) ∧
    decode 0x00003F13#32 = .error (.byteCountAbove32 63#6) ∧
    decode 0x00004013#32 = .error .reservedBits ∧
    decode 0x00000000#32 = .error (.unassignedOpcode 0x00#8) ∧
    decode 0x00000101#32 = .error (.argumentOnCmd0 1#6) ∧
    decode 0x00000024#32 = .error (.unassignedOpcode 0x24#8) ∧
    decode 0x80000020#32 = .error .reservedBits ∧
    decode 0x00000F10#32 = .error (.argumentOnCmd0 15#6) ∧
    decode 0x000000FF#32 = .error (.unassignedOpcode 0xFF#8) := by decide

/-! ### The bus (vectors V-B) -/

/-- V-B1, V-B4, V-B5. -/
theorem test_reads_after_reset :
    readData 0x0000#13 State.reset = 0x55434201#32 ∧ readData 0x000C#13 State.reset = 0#32 ∧
    readData 0x0010#13 State.reset = 0#32 ∧ readData 0x0014#13 State.reset = 0#32 ∧
    readData 0x0008#13 State.reset = 0#32 := by decide +kernel

/-- V-B8, V-B9: a narrow and a misaligned write fault. -/
theorem test_refused_writes :
    transfer { Transfer.writeWord 0x0040#13 0xAB#32 with width := .bits8 } State.reset
      = .fault .busError ∧
    transfer (.writeWord 0x0042#13 0xAB#32) State.reset = .fault .busError ∧
    transfer { Transfer.writeWord 0x0040#13 0xAB#32 with strb := 0b0111#4 } State.reset
      = .fault .busError := ⟨rfl, rfl, rfl⟩

/-- V-B10: a write to KEY0 while BUSY sets OVERRUN and is dropped. -/
theorem test_busy_write :
    statusWord (busWrite 0x0040#13 0x11111111#32 (busyWith 1#32)) = 0x00000009#32 ∧
    (busWrite 0x0040#13 0x11111111#32 (busyWith 1#32)).key[0] = 0#32 := by decide +kernel

/-- V-B19: acceptance clears the status of a failed command. -/
theorem test_acceptance :
    statusWord (busWrite 0x0008#13 0x10#32
      { State.reset with done := true, err := true, errcode := 3#4 }) = 0x00000001#32 := by
  decide +kernel

/-- V-B14, V-B16: enabling raises the pending interrupt at once, and acknowledging lowers it. -/
theorem test_interrupt :
    irq (busWrite 0x0010#13 1#32 { State.reset with doneIp := true }) = true ∧
    irq (busWrite 0x0014#13 1#32 { State.reset with doneIp := true, doneIe := true }) = false := by
  decide +kernel

/-! ### The commands -/

/-- V-C10: CIPHER_ENC. -/
theorem test_cipherEnc :
    endsIn (exec .cipherEnc
      { State.reset with key := keysC10, blkLo := 0x03020100#32, blkHi := 0x07060504#32 })
      (fun t => t.ctLo == 0xE8A65C85#32 && t.ctHi == 0x1C942288#32 && statusWord t == 2#32) = true := by
  decide +kernel

/-- V-C14: only the first key is set, so the key order shows. -/
theorem test_cipher_key_order :
    encrypt #v[1#32, 0#32, 0#32, 0#32, 0#32, 0#32, 0#32, 0#32] 0#64 = 0x31CC6E5638A0229A#64 := by
  decide +kernel

/-- V-H10: HASH_INIT keeps HM. -/
theorem test_hashInit :
    endsIn (exec .hashInit (hashing 1#256 2#256 3#256 4#256))
      (fun t => t.hh == 0#256 && t.hs == 0#256 && t.hl == 0#256 && t.hm == 4#256) = true := by
  decide +kernel

/-- V-H8: HASH_COMPRESS leaves the checksum and the length. -/
theorem test_hashCompress :
    endsIn (exec .hashCompress (hashing 0#256 5#256 7#256 0#256))
      (fun t => t.hh == 0x105439C35BF5F207FCDB83CE13A96D220AF2571C05E64EC939B19A9749E68252#256 &&
        t.hs == 5#256 && t.hl == 7#256) = true := by
  decide +kernel

/-- V-F3: the compression step with the two arguments told apart. -/
theorem test_compress_arguments :
    compress 0x1F1E1D1C1B1A191817161514131211100F0E0D0C0B0A09080706050403020100#256 0#256
      = 0x9BC20EB2CEE94517FC25F8D3EB06DCEC38EA2726B834208564A56529DD31225E#256 := by
  decide +kernel

/-- V-H7: HASH_BLOCK with a checksum that wraps. -/
theorem test_hashBlock :
    endsIn (exec .hashBlock (hashing 0#256 (BitVec.allOnes 256) 0#256 1#256))
      (fun t => t.hh == 0x728C7334FB147A4D527F3102E336F51FEDD37B736DA1A3CB26885D2862280615#256 &&
        t.hs == 0#256 && t.hl == 0x100#256) = true := by
  decide +kernel

/-- V-H3: HASH_FINAL 3 of "abc" with other bytes past the count. -/
theorem test_hashFinal :
    endsIn (exec (.hashFinal 3#6) (hashing 0#256 0#256 0#256
      0xFFFFFFFFFFFFFFFFFFFFFFFFFFFFFFFFFFFFFFFFFFFFFFFFFFFFFFFFFF636261#256))
      (fun t => wordOf t.hh 0 == 0x484313F3#32 && wordOf t.hh 7 == 0x1DD5A406#32 &&
        t.hs == 0x636261#256 && t.hl == 0x18#256) = true := by
  decide +kernel

/-- V-X1. -/
theorem test_bnModexp : ∃ t, exec .bnModexp (bignum (num 4) (num 13) (num 497)) = .next t ∧
    t.bnr.toNat = 445 ∧ statusWord t = 2#32 := by
  let s := bignum (num 4) (num 13) (num 497)
  have h : powMod (num 4).toNat (num 13).toNat (num 497).toNat = 445 := by decide +kernel
  refine ⟨finishOk false (writeBnr (powMod (num 4).toNat (num 13).toNat (num 497).toNat) s), ?_, ?_,
    statusWord_after _ rfl⟩
  · exact execBnModexp_ok s (by decide +kernel)
  · rw [h]; exact writeBnr_toNat_small s (by decide)

/-- 42_bignum R152: M = 0 is INVALID_PARAM and keeps BNR. -/
theorem test_bnModexp_zero_modulus :
    endsIn (exec .bnModexp { bignum (num 4) (num 13) (num 0) with bnr := num 9 })
      (fun t => t.bnr.toNat == 9 && statusWord t == 0x26#32) = true := by
  decide +kernel

/-- 42_bignum R154: 29 modulo 15. -/
theorem test_bnModinv : ∃ t, exec .bnModinv (bignum (num 29) (num 0) (num 15)) = .next t ∧
    t.bnr.toNat = 14 ∧ statusWord t = 2#32 := by
  let s := bignum (num 29) (num 0) (num 15)
  have h : inverseMod (num 29).toNat (num 15).toNat = 14 := by decide +kernel
  refine ⟨finishOk false (writeBnr (inverseMod (num 29).toNat (num 15).toNat) s), ?_, ?_,
    statusWord_after _ rfl⟩
  · exact execBnModinv_ok s (by decide +kernel) (by decide +kernel)
  · rw [h]; exact writeBnr_toNat_small s (by decide)

/-- 42_bignum R154: 6 has no inverse modulo 15. -/
theorem test_bnModinv_no_inverse :
    endsIn (exec .bnModinv (bignum (num 6) (num 0) (num 15)))
      (fun t => t.bnr.toNat == 0 && statusWord t == 0x36#32) = true := by
  decide +kernel

/-- 42_bignum R157: n = 13, a = 2 passes in the loop; n = 9, a = 2 does not. -/
theorem test_bnMrRound :
    endsIn (exec .bnMrRound (bignum (num 2) (num 0) (num 13)))
      (fun t => statusWord t == 0x102#32) = true ∧
    endsIn (exec .bnMrRound (bignum (num 2) (num 0) (num 9)))
      (fun t => statusWord t == 2#32) = true := by
  decide +kernel

/-- 42_bignum R157: the witness n - 1 is refused. -/
theorem test_bnMrRound_bad_witness :
    endsIn (exec .bnMrRound (bignum (num 12) (num 0) (num 13)))
      (fun t => statusWord t == 0x26#32) = true := by
  decide +kernel

/-- 42_bignum R160: 9973 squared, the greatest small prime's square. -/
theorem test_bnTrialdiv_factor :
    ∃ t, exec .bnTrialdiv (bignum (num 0) (num 0) (num 99460729)) = .next t ∧
      t.bnr.toNat = 9973 ∧ statusWord t = 2#32 := by
  have h : smallFactor? (opM (bignum (num 0) (num 0) (num 99460729))) = some 9973 := by
    decide +kernel
  have h2 : ¬ opM (bignum (num 0) (num 0) (num 99460729)) < 2 := by decide +kernel
  refine ⟨_, (exec_bnTrialdiv _).trans (execBnTrialdiv_some _ _ h2 h), ?_, statusWord_after _ rfl⟩
  rw [finishOk_bnr, writeBnr_toNat_small _ (by decide)]

/-- 42_bignum R160: 9973 is prime and passes. -/
theorem test_bnTrialdiv_passes :
    ∃ t, exec .bnTrialdiv (bignum (num 0) (num 0) (num 9973)) = .next t ∧
      t.bnr.toNat = 0 ∧ statusWord t = 0x102#32 := by
  have h : smallFactor? (opM (bignum (num 0) (num 0) (num 9973))) = none := by decide +kernel
  have h2 : ¬ opM (bignum (num 0) (num 0) (num 9973)) < 2 := by decide +kernel
  refine ⟨_, (exec_bnTrialdiv _).trans (execBnTrialdiv_none _ h2 h), ?_, rfl⟩
  rw [finishOk_bnr, writeBnr_toNat_small _ (by decide)]

/-- V-E4 and V-H13: an illegal word runs to ILLEGAL_CMD. -/
theorem test_illegal_word :
    endsIn (step (State.reset.withFetchWord 32 0x2113))
      (fun t => statusWord t == 0x16#32 && t.doneIp) = true := by
  decide +kernel

/-- P7, case (b): a host that writes BLK_LO after the engine completed sets no OVERRUN. -/
theorem test_host_program :
    (match HostRun.run [true, false, true]
        (.start [.wr offCmd 1#32, .wr 0x0060#13 0x11111111#32] State.reset) with
      | .next h => h.block.blkLo == 0x11111111#32 && h.block.ctLo == 0xA6C2FDC9#32 &&
          statusWord h.block == 2#32
      | .fault _ => false
      | .refused _ => false) = true := by
  decide +kernel

/-! ### Witnesses: the hypotheses of each statement can be met -/

/-- From a check of an outcome, the next state that it was. -/
theorem endsIn_witness {o : Host.Outcome State Fault Refusal} {p : State → Bool}
    (h : endsIn o p = true) : ∃ t, o = .next t ∧ p t = true := by
  cases o with
  | next t => exact ⟨t, rfl, h⟩
  | fault f => cases h
  | refused r => cases h

theorem test_witness_DecodeOfEncodeIsIdentity :
    (Instr.hashFinal 0#6).wellFormed = true ∧ (Instr.hashFinal 32#6).wellFormed = true ∧
    Instr.bnTrialdiv.wellFormed = true := by decide

theorem test_witness_LegalWordIsItsCommandsEncoding :
    decode 0x00002013#32 = .ok (.hashFinal 32#6) ∧ decode 0x00000023#32 = .ok .bnTrialdiv := by decide

theorem test_witness_DecodingFollowsTheOpcodeTable :
    decode 0x00002013#32 = .ok (.hashFinal 32#6) ∧
    decode 0x00002113#32 = .error (.byteCountAbove32 33#6) ∧
    (busyWith 0x00002113#32).lcmd = 0x00002113#32 := by decide

theorem test_witness_OpcodeRowsDoNotOverlap :
    ∃ r ∈ opcodeTable, r.claims 0x00002013#32 = true := by decide

theorem test_witness_RegisterMapIsOneToOne :
    Reg.offset? (.bnr 255) = some 0x1FFC#13 ∧ (0x1FFC#13 : Offset).toNat % 4 = 0 ∧
    regAt 0x1FFC#13 = .bnr 255 ∧ regAt 0x0000#13 = .id ∧ regAt 0x00FC#13 = .hl 7 ∧
    regAt 0x0FFC#13 ≠ .bna 0 := by
  decide +kernel

theorem test_witness_StatusRegisterFields :
    (8#32 : Word)[3] = true ∧ (0xFFFFFFF7#32 : Word)[3] = false := by decide

/-- The reserved ranges at their first and last offsets, and each register that ignores writes. -/
theorem test_witness_ReservedReadsZeroAndWritesAreIgnored :
    (∀ off ∈ [0x0018#13, 0x003C#13, 0x0070#13, 0x007C#13, 0x0100#13, 0x0FFC#13],
      off.toNat % 4 = 0 ∧ regAt off = .reserved ∧ IgnoresWrites (regAt off)) ∧
    IgnoresWrites (regAt 0x0000#13) ∧ IgnoresWrites (regAt 0x0068#13) ∧
    IgnoresWrites (regAt 0x1FFC#13) := by
  have h (off : Offset) (hr : regAt off = .reserved) : IgnoresWrites (regAt off) := by
    rw [hr]; exact .inr (.inr (.inr (.inr (.inl rfl))))
  refine ⟨?_, .inl rfl, .inr (.inr (.inl rfl)), .inr (.inr (.inr (.inr (.inr (.inl ⟨255, rfl⟩)))))⟩
  simp only [List.forall_mem_cons, List.not_mem_nil, false_implies, implies_true, and_true]
  exact ⟨⟨rfl, rfl, h _ rfl⟩, ⟨rfl, rfl, h _ rfl⟩, ⟨rfl, rfl, h _ rfl⟩, ⟨rfl, rfl, h _ rfl⟩,
    ⟨rfl, rfl, h _ rfl⟩, ⟨rfl, rfl, h _ rfl⟩⟩

/-- A bignum word that does not exist: the last one, at any W below 8192. -/
theorem test_witness_absent_bignum_word (h : Config.bnWords < 256) :
    ∃ j : Fin 256, Config.bnWords ≤ j.val ∧ regAt 0x13FC#13 = .bna j ∧
      IgnoresWrites (regAt 0x13FC#13) := by
  have hj : Config.bnWords ≤ (255 : Fin 256).val := by
    show Config.bnWords ≤ 255
    omega
  exact ⟨255, hj, rfl, .inr (.inr (.inr (.inr (.inr (.inr ⟨255, hj, .inl rfl⟩)))))⟩

theorem test_witness_EightWordWritesRestoreAGroup : State.reset.busy = false := rfl

theorem test_witness_GroupIsItsEightWords : (7 : Nat) < 8 := by decide

theorem test_witness_BignumIsTheSumOfItsWords :
    (31 : Fin 256).val < Config.bnWords := by
  have h : 32 ≤ Config.bnWords := bnWords_range.1
  show 31 < Config.bnWords
  omega

theorem test_witness_TransfersAreAcceptedOrRefused :
    accepted (.read 0x1FFC#13) = true ∧ accepted (.writeWord 0x0040#13 0#32) = true ∧
    accepted (.read 0x1FFF#13) = false ∧
    (scheduled (.host (.read 0x1FFC#13)) State.reset).schedule = [.host (.read 0x1FFC#13)] := by
  decide +kernel

theorem test_witness_ReadGivesTheRegistersValue :
    (0x00BC#13 : Offset).toNat % 4 = 0 ∧ State.reset.busy = false ∧
    (regAt 0x0040#13).isOutput = false ∧
    (busyWith 1#32).busy = true ∧ (regAt 0x00BC#13).isOutput = true := by decide +kernel

theorem test_witness_ReadsAndWritesRepeat :
    readIsFree 0x00BC#13 State.reset = false ∧ (0x000C#13 : Offset).toNat % 4 = 0 ∧
    regAt 0x000C#13 ≠ .cmd ∧ State.reset.busy = false ∧ State.reset.overrun = false := by
  decide +kernel

/-- One offset for each clause: KEY0 and HL7 are data, and so is BNM word 31 whatever W is. -/
theorem test_witness_IdleWriteStoresOrActs :
    State.reset.busy = false ∧ (regAt 0x0040#13).isData = true ∧ (regAt 0x00FC#13).isData = true ∧
    (regAt 0x187C#13).isData = true ∧ IgnoresWrites (regAt 0x006C#13) ∧
    regAt 0x000C#13 = .status ∧ regAt 0x0010#13 = .irqEn ∧ regAt 0x0014#13 = .irqPend ∧
    regAt 0x0008#13 = .cmd := by
  have h : 32 ≤ Config.bnWords := bnWords_range.1
  refine ⟨rfl, rfl, rfl, ?_, .inr (.inr (.inr (.inl rfl))), rfl, rfl, rfl, rfl⟩
  show decide (31 < Config.bnWords) = true
  exact decide_eq_true (by omega)

theorem test_witness_BusyWriteIsDroppedWithOverrun :
    (busyWith 1#32).busy = true ∧ regAt 0x0008#13 = .cmd ∧ (regAt 0x00FC#13).isData = true ∧
    IgnoresWrites (regAt 0x1C00#13) ∧ regAt 0x000C#13 = .status ∧ regAt 0x0010#13 = .irqEn ∧
    regAt 0x0014#13 = .irqPend :=
  ⟨rfl, rfl, rfl, .inr (.inr (.inr (.inr (.inr (.inl ⟨0, rfl⟩))))), rfl, rfl, rfl⟩

theorem test_witness_CommandAcceptance :
    State.reset.busy = false ∧ decode 0#32 = .error (.unassignedOpcode 0#8) ∧
    (busyWith 1#32).busy = true := by decide +kernel

theorem test_witness_StepRunsTheDecodedCommand :
    decode (busyWith 0x313#32).lcmd = .ok (.hashFinal 3#6) ∧ (busyWith 0x313#32).busy = true ∧
    (busyWith 0x313#32).schedule = [] ∧
    (scheduled .engine (busyWith 0x313#32)).schedule = .engine :: [] ∧
    decodeTableWord 32 0x313 = some (.hashFinal 3#6) := by decide +kernel

theorem test_witness_ErrorsArePrecise :
    ∃ s t, completeStep s = .next t ∧ t.err = true := by
  obtain ⟨t, h, ht⟩ := endsIn_witness (o := completeStep (busyWith 0x20#32)) (p := fun t => t.err)
    (by decide +kernel)
  exact ⟨_, t, h, ht⟩

theorem test_witness_SixCommandsNeverFail :
    (Instr.hashFinal 32#6).wellFormed = true ∧ Instr.hashFinal 32#6 ≠ .bnModexp ∧
    Instr.hashFinal 32#6 ≠ .bnModinv ∧ Instr.hashFinal 32#6 ≠ .bnMrRound := by decide

theorem test_witness_DonePendingIsSetByCompletionOnly :
    (∃ s t, step s = .next t ∧ s.doneIp = false ∧ t.doneIp = true) ∧
    (∃ s t, step s = .next t ∧ s.doneIp = true ∧ t.doneIp = false) :=
  ⟨⟨busyWith 0x10#32, _, rfl, rfl, rfl⟩,
   ⟨scheduled (.host (.writeWord 0x0014#13 1#32)) { State.reset with doneIp := true }, _, rfl, rfl, rfl⟩⟩

theorem test_witness_InterruptLineIsPendingAndEnabled :
    ({ State.reset with doneIp := true } : State).doneIp = true ∧ (1#32 : Word)[0] = true ∧
    (0#32 : Word)[0] = false := by decide +kernel

theorem test_witness_OverrunIsSticky :
    (∃ s t, step s = .next t ∧ s.overrun = false ∧ t.overrun = true) ∧
    (∃ s t, step s = .next t ∧ s.overrun = true ∧ t.overrun = false) :=
  ⟨⟨scheduled (.host (.writeWord 0x0008#13 1#32)) (busyWith 1#32), _, rfl, rfl, rfl⟩,
   ⟨scheduled (.host (.writeWord 0x000C#13 8#32)) { State.reset with overrun := true }, _, rfl, rfl, rfl⟩⟩

/-- The reset state is one, and it steps. -/
theorem test_witness_StepKeepsTheInvariant : ∃ s t, Inv s ∧ step s = .next t := by
  refine ⟨State.reset, State.reset, ⟨⟨?_, ?_, ?_⟩, ?_⟩, rfl⟩
  · intro h; cases h
  · intro h; cases h
  · intro _; rfl
  · intro h; cases h

theorem test_witness_ResultsChangeOnlyAtCompletion :
    (∃ s t, step s = .next t ∧ (∀ rest, s.schedule ≠ .reset :: rest) ∧ ¬ SameCt s t) ∧
    (∃ s t, step s = .next t ∧ (∀ rest, s.schedule ≠ .reset :: rest) ∧ t.bnr ≠ s.bnr) := by
  obtain ⟨t, h, ht⟩ := endsIn_witness (o := step (busyWith 1#32))
    (p := fun t => t.ctLo == 0xA6C2FDC9#32) (by decide +kernel)
  have hn : ∀ rest : List Event, ([] : List Event) ≠ .reset :: rest := by simp
  have hf : step dividingFour = .next (finishOk false (writeBnr 2 dividingFour)) := by
    have h2 : smallFactor? (opM dividingFour) = some 2 := by decide +kernel
    have h3 : ¬ opM dividingFour < 2 := by decide +kernel
    exact (show step dividingFour = execBnTrialdiv dividingFour from rfl).trans
      (execBnTrialdiv_some _ 2 h3 h2)
  refine ⟨⟨_, t, h, hn, fun hc => ?_⟩, ⟨_, _, hf, hn, fun hc => ?_⟩⟩
  · exact absurd ((beq_iff_eq.mp ht).symm.trans hc.1) (by decide)
  · have h2 : 2 = dividingFour.bnr.toNat :=
      (writeBnr_toNat_small dividingFour (by decide)).symm.trans (congrArg BitVec.toNat hc)
    have h0 : dividingFour.bnr.toNat = 0 := by simp [dividingFour, bignum, State.reset, ArchState.reset]
    omega

theorem test_witness_DataIsStableWhileBusy :
    ∃ s t, step s = .next t ∧ s.busy = true ∧ t.busy = true :=
  ⟨scheduled (.host (.writeWord 0x0040#13 1#32)) (busyWith 1#32), _, rfl, rfl, rfl⟩

theorem test_witness_ResultsIndependentOfLatencyAndTraffic :
    ∃ (es rest : List Event) (s : State), s.busy = true ∧ s.schedule = es ++ rest ∧
      (∀ e ∈ es, Harmless e) ∧ es ≠ [] := by
  refine ⟨[.engine, .host (.read 0x0068#13)], [],
    { busyWith 1#32 with schedule := [.engine, .host (.read 0x0068#13)] }, rfl, rfl, ?_, by simp⟩
  intro e he
  rcases List.mem_cons.mp he with rfl | he
  · exact .inl rfl
  · rcases List.mem_cons.mp he with rfl | he
    · exact .inr ⟨_, rfl, rfl⟩
    · cases he

theorem test_witness_EveryCommandCompletes :
    ∃ s : State, s.busy = true ∧ NoBusFault s ∧ (∀ e ∈ s.schedule, e ≠ .reset) ∧ s.schedule ≠ [] := by
  refine ⟨scheduled (.host (.read 0x0068#13)) (busyWith 1#32), rfl, ?_, ?_, by simp [scheduled]⟩
  · intro e he t ht
    rcases List.mem_cons.mp he with rfl | he
    · cases ht; rfl
    · cases he
  · intro e he
    rcases List.mem_cons.mp he with rfl | he
    · simp
    · cases he

theorem test_witness_ResetSetsTheWholeState :
    (scheduled .reset (busyWith 1#32)).schedule = .reset :: [] ∧
    (0x1FFC#13 : Offset).toNat % 4 = 0 ∧ 8 ≤ (0x0008#13 : Offset).toNat := by decide +kernel

/-- HASH_FINAL 3 at two states that differ outside its operands. -/
theorem test_witness_CommandsUseTheirImplicitOperands :
    (Instr.hashFinal 3#6).wellFormed = true ∧
    AgreeOnReads (.hashFinal 3#6) State.reset { State.reset with bna := num 1, ctLo := 2#32 } :=
  ⟨rfl, ⟨rfl, rfl, rfl⟩, rfl⟩

theorem test_witness_SboxRowsArePermutations : sbox 7 15#4 = sbox 7 15#4 := rfl

theorem test_witness_SubstitutionActsNibbleByNibble : (0 : Nat) < 8 ∧ (7 : Nat) < 8 := by decide

theorem test_witness_TransformPMovesBytes : (3 : Nat) ≤ 3 ∧ (7 : Nat) ≤ 7 := by decide

theorem test_witness_PsiShiftsWithFeedback : (14 : Nat) < 15 := by decide

theorem test_witness_SlicesAreEncryptedUnderTheirKeys :
    (1 : Nat) ≤ 4 ∧ (4 : Nat) ≤ 4 ∧ (1 : Nat) ≤ 8 ∧ (8 : Nat) ≤ 8 := by decide

theorem test_witness_HashFinalFinishesTheMessage :
    (32#6 : BitVec 6).toNat ≤ 32 ∧ (0#6 : BitVec 6).toNat = 0 ∧ 0 < (1#6 : BitVec 6).toNat ∧
    (0x34#256 : Wide).toNat = (hashing 0#256 0#256 0#256 0x1234#256).hm.toNat % 2 ^ (8 * (1#6 : BitVec 6).toNat) ∧
    opField (busyWith 0x2113#32).lcmd = 0x13#8 ∧ 32 < (nbField (busyWith 0x2113#32).lcmd).toNat := by
  decide +kernel

theorem test_witness_HashFinal32IsBlockThenFinal0 : ∃ s t, exec .hashBlock s = .next t :=
  ⟨State.reset, _, rfl⟩

/-- HM with other bytes from byte 1 on. -/
theorem test_witness_HashFinalIgnoresBytesPastTheCount :
    SameHash (hashing 1#256 2#256 3#256 0x34#256) (hashing 1#256 2#256 3#256 0xFF34#256) ∧
    (1#6 : BitVec 6).toNat ≤ 32 ∧
    ∀ i, i < (1#6 : BitVec 6).toNat →
      byteOf (hashing 1#256 2#256 3#256 0xFF34#256).hm i = byteOf (hashing 1#256 2#256 3#256 0x34#256).hm i := by
  refine ⟨⟨rfl, rfl, rfl⟩, by decide, fun i hi => ?_⟩
  have : i = 0 := by
    have : i < 1 := hi
    omega
  subst this
  decide +kernel

/-- "abc" with other bytes past its end, and a message of one whole block. -/
theorem test_witness_CommandSequenceComputesHash94 :
    (0xFF636261#256 : Wide).toNat % 2 ^ (8 * ([0x61#8, 0x62#8, 0x63#8].length % 32))
      = (messageBlock [0x61#8, 0x62#8, 0x63#8] (32 * ([0x61#8, 0x62#8, 0x63#8].length / 32))).toNat ∧
    0 < (List.replicate 32 0x61#8).length ∧ (List.replicate 32 0x61#8).length % 32 = 0 := by
  decide +kernel

theorem test_witness_BignumResultsAreInRange :
    (∃ s t, exec .bnModexp s = .next t ∧ t.err = false) ∧
    (∃ s t, exec .bnModinv s = .next t ∧ t.err = false) ∧
    (∃ s t, exec .bnTrialdiv s = .next t) ∧
    (∃ s t, exec .bnModexp s = .next t ∧ t.err = true) :=
  ⟨⟨bignum (num 4) (num 13) (num 497), _, execBnModexp_ok _ (by decide +kernel), rfl⟩,
    ⟨bignum (num 3) (num 0) (num 11), _,
      execBnModinv_ok _ (by decide +kernel) (by decide +kernel), rfl⟩,
    ⟨bignum (num 0) (num 0) (num 1), _,
      (exec_bnTrialdiv _).trans (execBnTrialdiv_small _ (by decide +kernel))⟩,
    ⟨bignum (num 0) (num 0) (num 0), _, execBnModexp_zero _ (by decide +kernel), rfl⟩⟩

theorem test_witness_ModexpWritesThePower :
    (bignum (num 4) (num 13) (num 0)).bnm.toNat = 0 ∧
    (bignum (num 4) (num 13) (num 1)).bnm.toNat ≠ 0 := by decide +kernel

theorem test_witness_ModinvWritesTheInverse :
    opM (bignum (num 3) (num 0) (num 0)) = 0 ∧
    (opM (bignum (num 6) (num 0) (num 15)) ≠ 0 ∧
      Nat.gcd (opA (bignum (num 6) (num 0) (num 15))) (opM (bignum (num 6) (num 0) (num 15))) ≠ 1) ∧
    (opM (bignum (num 3) (num 0) (num 11)) ≠ 0 ∧
      Nat.gcd (opA (bignum (num 3) (num 0) (num 11))) (opM (bignum (num 3) (num 0) (num 11))) = 1) ∧
    (4 < opM (bignum (num 3) (num 0) (num 11)) ∧ 3 * 4 % 11 = 1 % 11) := by
  decide +kernel

theorem test_witness_OddPartDecompositionIsUnique :
    (5 : Nat) ≤ 5 ∧ 5 % 2 = 1 ∧ 5 - 1 = 2 ^ 2 * 1 ∧ 1 % 2 = 1 := by decide

/-- Each way an operand is out of range, at its boundary, and the smallest legal n. -/
theorem test_witness_MillerRabinRoundDecides :
    (¬ 5 ≤ (num 3).toNat ∧ (num 6).toNat % 2 ≠ 1 ∧ ¬ 2 ≤ (num 1).toNat ∧
      ¬ (num 4).toNat ≤ (num 5).toNat - 2) ∧
    (5 ≤ (num 5).toNat ∧ (num 5).toNat % 2 = 1 ∧ 2 ≤ (num 3).toNat ∧
      (num 3).toNat ≤ (num 5).toNat - 2 ∧ (num 5).toNat - 1 = 2 ^ 2 * 1) := by
  decide +kernel

theorem test_witness_MillerRabinPassesEveryPrime :
    (bignum (num 2) (num 0) (num 5)).bnm.toNat.Prime ∧
    5 ≤ (bignum (num 2) (num 0) (num 5)).bnm.toNat ∧
    2 ≤ (bignum (num 2) (num 0) (num 5)).bna.toNat ∧
    (bignum (num 2) (num 0) (num 5)).bna.toNat ≤ (bignum (num 2) (num 0) (num 5)).bnm.toNat - 2 :=
  ⟨Nat.prime_five, by decide +kernel, by decide +kernel, by decide +kernel⟩

/-- n = 1, n = 2 and n = 9 with its least factor 3. -/
theorem test_witness_TrialDivisionReportsTheLeastFactor :
    (bignum (num 0) (num 0) (num 1)).bnm.toNat < 2 ∧
    (2 ≤ (bignum (num 0) (num 0) (num 2)).bnm.toNat ∧ ∀ p : Nat, p.Prime → p < 10000 → p < 2 → ¬ p ∣ 2) ∧
    (2 ≤ (bignum (num 0) (num 0) (num 9)).bnm.toNat ∧ Nat.Prime 3 ∧ 3 < 10000 ∧ 3 < 9 ∧ 3 ∣ 9 ∧
      ∀ q : Nat, q.Prime → q < 10000 → q < 9 → q ∣ 9 → 3 ≤ q) := by
  refine ⟨by decide, ⟨by decide, fun p hp _ h => ?_⟩, by decide, Nat.prime_three, by decide,
    by decide, by decide, fun q hq _ _ hd => ?_⟩
  · have := hp.two_le
    omega
  · have := hq.two_le
    by_contra hlt
    obtain rfl : q = 2 := by omega
    omega

/-- n = 4, and the composite 10007 * 10009, which passes. -/
theorem test_witness_TrialDivisionDecidesSmallPrimality :
    (2 ≤ (bignum (num 0) (num 0) (num 4)).bnm.toNat ∧ (bignum (num 0) (num 0) (num 4)).bnm.toNat < 100140049) ∧
    ∃ s t, exec .bnTrialdiv s = .next t ∧ t.result = true ∧ ¬ s.bnm.toNat.Prime := by
  obtain ⟨t, h, hr⟩ := endsIn_witness (o := exec .bnTrialdiv (bignum (num 0) (num 0) (num 100160063)))
    (p := fun t => t.result) (by decide +kernel)
  refine ⟨by decide, bignum (num 0) (num 0) (num 100160063), t, h, hr, ?_⟩
  exact Nat.not_prime_mul (a := 10007) (b := 10009) (by decide) (by decide)

/-- The toy key of 42_bignum R162. -/
theorem test_witness_RsaRoundTrip :
    Nat.Prime 61 ∧ Nat.Prime 53 ∧ (61 : Nat) ≠ 53 ∧ 65 < 61 * 53 ∧
    (bignum (num 17) (num 0) (num 3120)).bnm.toNat = (61 - 1) * (53 - 1) ∧
    61 * 53 < 2 ^ Config.bnWidth ∧
    ∃ k, exec .bnModinv (bignum (num 17) (num 0) (num 3120)) = .next k ∧ k.err = false :=
  ⟨by norm_num, by norm_num, by decide, by decide, rfl,
    lt_two_pow_bnWidth 64 (by decide) (by decide), _,
    execBnModinv_ok _ (by decide +kernel) (by decide +kernel), rfl⟩

end Sys2Proof.Tests
end

