-- ==== Sys2Proof/Proofs/Scope.lean ====
section
/-! PROOFS. What a legal word decodes to, what every event leaves of the schedule, and the engine's
completion step at a busy block (00_scope R14; 60_exceptions R183). -/

namespace Sys2Proof.Proofs

open Sys2Proof Sys2Proof.Machine Sys2Proof.Laws

/-! ### Words that decode (30_encoding R84) -/

/-- The tests a word has passed when it decodes, in the order of 30_encoding R84. -/
theorem decode_ok_spec {c : Word} {i : Instr} (h : decode c = .ok i) :
    rsvField c = 0#18 ∧ opcodeMap (opField c) (nbField c) = some i ∧
      if opField c = 0x13#8 then (nbField c).toNat ≤ 32 else nbField c = 0#6 := by
  unfold decode at h
  split at h
  case isTrue => cases h
  case isFalse hrsv =>
    refine ⟨not_not.mp hrsv, ?_⟩
    split at h
    · cases h
    · next j hmap =>
      split at h
      case isTrue hop =>
        split at h
        case isTrue => cases h
        case isFalse hnb =>
          cases h
          exact ⟨hmap, by rw [if_pos hop]; exact Nat.le_of_not_lt hnb⟩
      case isFalse hop =>
        split at h
        case isTrue => cases h
        case isFalse hnb =>
          cases h
          exact ⟨hmap, by rw [if_neg hop]; exact not_not.mp hnb⟩

/-- Both forms of a legal word bound the byte count: the argument's own test, or NB = 0. -/
theorem nbField_le_of_decode_ok {c : Word} {i : Instr} (h : decode c = .ok i) :
    (nbField c).toNat ≤ 32 := by
  obtain ⟨-, -, hnb⟩ := decode_ok_spec h
  split at hnb
  · exact hnb
  · simp [hnb]

/-- HASH_FINAL's row alone carries an argument, and it is NB (30_encoding R83). -/
theorem opcodeMap_hashFinal {op : BitVec 8} {nb nb' : BitVec 6}
    (h : opcodeMap op nb = some (.hashFinal nb')) : nb' = nb := by
  unfold opcodeMap at h
  split_ifs at h <;> cases h
  rfl

/-- NB is the only field of a command that can be out of range (30_encoding R82, R83). -/
theorem opcodeMap_wellFormed {op : BitVec 8} {nb : BitVec 6} {i : Instr}
    (h : opcodeMap op nb = some i) (hnb : nb.toNat ≤ 32) : i.wellFormed = true := by
  cases i with
  | hashFinal nb' =>
    rw [opcodeMap_hashFinal h]
    exact decide_eq_true hnb
  | _ => rfl

theorem decode_ok_wellFormed {c : Word} {i : Instr} (h : decode c = .ok i) :
    i.wellFormed = true :=
  have ⟨_, hmap, _⟩ := decode_ok_spec h
  opcodeMap_wellFormed hmap (nbField_le_of_decode_ok h)

/-- The host's question to the decoder is `decode` on the words that fit 32 bits (30_encoding
R80). -/
theorem decodeTableWord_eq_some {nbits w : Nat} {i : Instr} :
    decodeTableWord nbits w = some i ↔
      w % 2 ^ nbits < 2 ^ 32 ∧ decode (BitVec.ofNat 32 (w % 2 ^ nbits)) = .ok i := by
  unfold decodeTableWord
  dsimp only
  split
  case isTrue hlt =>
    split
    · next j hj => simp only [hj, hlt, true_and, Option.some.injEq, Except.ok.injEq]
    · next e he => simp [he]
  case isFalse hlt => simp only [hlt, false_and, reduceCtorEq]

/-! ### The engine at a busy block -/

theorem completeStep_ok {s : State} {i : Instr} (h : decode s.lcmd = .ok i) :
    completeStep s = exec i s := by
  simp [completeStep, h]

theorem engineStep_busy {s : State} (h : s.busy = true) : engineStep s = completeStep s :=
  if_pos h

theorem engineMove_busy {s : State} (h : s.busy = true) :
    engineMove s = if lastEngineStep s = true then completeStep (drawn s) else .next (drawn s) :=
  if_pos h

theorem step_nil {s : State} (h : s.schedule = []) : step s = engineStep s := by
  simp [step, h]

theorem step_cons {s : State} {e : Event} {rest : List Event} (h : s.schedule = e :: rest) :
    step s = perform e { s with schedule := rest } := by
  simp [step, h]

/-- With nothing scheduled, a busy block completes the command its latched word decodes to. -/
theorem step_nil_busy {s : State} {i : Instr} (hi : decode s.lcmd = .ok i) (hb : s.busy = true)
    (hs : s.schedule = []) : step s = exec i s := by
  rw [step_nil hs, engineStep_busy hb, completeStep_ok hi]

/-- A scheduled engine step of a busy block: the completion step or an internal one, as drawn
(00_scope R14). -/
theorem step_engine_busy {s : State} {i : Instr} {rest : List Event}
    (hi : decode s.lcmd = .ok i) (hb : s.busy = true) (hs : s.schedule = .engine :: rest) :
    step s = if lastEngineStep { s with schedule := rest } = true
      then exec i (drawn { s with schedule := rest })
      else .next (drawn { s with schedule := rest }) := by
  have hmove : step s = engineMove { s with schedule := rest } := step_cons hs
  have hbusy : ({ s with schedule := rest } : State).busy = true := hb
  have hrun : completeStep (drawn { s with schedule := rest })
      = exec i (drawn { s with schedule := rest }) := completeStep_ok hi
  rw [hmove, engineMove_busy hbusy, hrun]

/-- `withFetchWord` puts a word where the engine completes it next, whatever the block was doing. -/
theorem step_withFetchWord {nbits w : Nat} {i : Instr} (s : State)
    (h : decode (BitVec.ofNat 32 (w % 2 ^ nbits)) = .ok i) :
    step (s.withFetchWord nbits w) = exec i (s.withFetchWord nbits w) :=
  step_nil_busy (s := s.withFetchWord nbits w) h rfl rfl

/-! ### The schedule: only `step` itself takes from it -/

theorem completionOf_schedule {s t : State} (h : CompletionOf s t) : t.schedule = s.schedule := by
  obtain ⟨_, rfl⟩ | ⟨_, rfl⟩ | ⟨_, rfl⟩ | ⟨_, _, _, rfl⟩ | ⟨_, _, rfl⟩ := h <;> rfl

theorem completeStep_schedule {s t : State} (h : completeStep s = .next t) :
    t.schedule = s.schedule := by
  obtain ⟨u, hu, hc⟩ := completeStep_spec s
  obtain rfl : u = t := Host.Outcome.next.inj (hu.symm.trans h)
  exact completionOf_schedule hc

theorem engineMove_schedule {s t : State} (h : engineMove s = .next t) :
    t.schedule = s.schedule := by
  obtain ⟨-, rfl⟩ | ⟨-, hc⟩ | ⟨-, rfl⟩ := engineMove_cases h
  · rfl
  · exact (completeStep_schedule hc).trans (drawn_schedule s)
  · rfl

@[simp] theorem writeData_schedule (r : Reg) (v : Word) (s : State) :
    (writeData r v s).schedule = s.schedule := by
  cases r <;> rfl

@[simp] theorem writeReg_schedule (r : Reg) (v : Word) (s : State) :
    (writeReg r v s).schedule = s.schedule := by
  obtain h | ⟨-, -, h⟩ | ⟨-, h⟩ | ⟨-, -, h⟩ | ⟨-, -, h⟩ | ⟨-, -, h⟩ | ⟨-, -, h⟩ :=
    writeReg_cases r v s <;> simp [h]

theorem transfer_schedule {tr : Transfer} {s t : State} (h : transfer tr s = .next t) :
    t.schedule = s.schedule := by
  obtain ⟨-, ⟨-, rfl⟩ | ⟨-, rfl⟩⟩ := transfer_next h
  · exact writeReg_schedule _ _ _
  · rfl

/-- No event puts events on the schedule or takes them from it. -/
theorem perform_schedule {e : Event} {s t : State} (h : perform e s = .next t) :
    t.schedule = s.schedule := by
  cases e with
  | host tr => exact transfer_schedule h
  | engine => exact engineMove_schedule h
  | reset =>
    obtain rfl : resetBlock s = t := Host.Outcome.next.inj h
    rfl

theorem step_cons_schedule {s t : State} {e : Event} {rest : List Event}
    (hs : s.schedule = e :: rest) (h : step s = .next t) : t.schedule = rest :=
  perform_schedule ((step_cons hs).symm.trans h)

/-! ### The statement -/

/-- Settles O19: a latched legal word is well-formed and run by `exec`, no event touches the rest of
the schedule, and `withFetchWord` leaves a busy block with an empty schedule. -/
theorem stepRunsTheDecodedCommand : Obligations.StepRunsTheDecodedCommand := by
  refine ⟨fun s i hi hb => ⟨decode_ok_wellFormed hi, ?_, ?_⟩, ?_, ?_⟩
  · exact step_nil_busy hi hb
  · exact fun rest hs => step_engine_busy hi hb hs
  · exact fun s t e rest hs h => step_cons_schedule hs h
  · intro s nbits w i h
    obtain ⟨-, hdec⟩ := decodeTableWord_eq_some.mp h
    exact step_withFetchWord s hdec

end Sys2Proof.Proofs
end

/-! PROOFS. The family of 10_state: what a step, a command and a register write can do to the tuple
of R20, the register map and its words; and the statements that rest on them. -/

namespace Sys2Proof.Proofs

open Sys2Proof Sys2Proof.Machine Sys2Proof.Laws

/-! ### What a write of a data register leaves alone (20_memory R64) -/

section WriteData

variable (r : Reg) (v : Word) (s : State)

@[simp] theorem writeData_ctLo : (writeData r v s).ctLo = s.ctLo := by cases r <;> rfl
@[simp] theorem writeData_ctHi : (writeData r v s).ctHi = s.ctHi := by cases r <;> rfl
@[simp] theorem writeData_bnr : (writeData r v s).bnr = s.bnr := by cases r <;> rfl
@[simp] theorem writeData_busy : (writeData r v s).busy = s.busy := by cases r <;> rfl
@[simp] theorem writeData_done : (writeData r v s).done = s.done := by cases r <;> rfl
@[simp] theorem writeData_err : (writeData r v s).err = s.err := by cases r <;> rfl
@[simp] theorem writeData_overrun : (writeData r v s).overrun = s.overrun := by cases r <;> rfl
@[simp] theorem writeData_errcode : (writeData r v s).errcode = s.errcode := by cases r <;> rfl
@[simp] theorem writeData_result : (writeData r v s).result = s.result := by cases r <;> rfl
@[simp] theorem writeData_doneIp : (writeData r v s).doneIp = s.doneIp := by cases r <;> rfl
@[simp] theorem writeData_lcmd : (writeData r v s).lcmd = s.lcmd := by cases r <;> rfl

end WriteData

/-! ### What each command does (60_exceptions R183, 30_encoding R86) -/

/-- The two ways in which a command ends: an error, which keeps every data register, or a success,
which keeps those outside its "writes" column. Only BN_MR_ROUND and BN_TRIALDIV choose RESULT
(10_state R40). -/
def Completes (i : Instr) (s t : State) : Prop :=
  (∃ c : ErrCode, CompletedErr c.code s t ∧ SameData s t) ∨
  ∃ r, CompletedOk r s t ∧ KeepsOthers i s t ∧ (r = true → i = .bnMrRound ∨ i = .bnTrialdiv)

theorem completedErr_finishError (c : ErrCode) (s : State) :
    CompletedErr c.code s (finishError c s) ∧ SameData s (finishError c s) := by
  simp [CompletedErr, SameRest, SameData]

theorem completes_error (i : Instr) (c : ErrCode) (s : State) : Completes i s (finishError c s) :=
  .inl ⟨c, completedErr_finishError c s⟩

theorem completes_writeCt (c : Block) (s : State) :
    Completes .cipherEnc s (finishOk false (writeCt c s)) :=
  .inr ⟨false, by simp [CompletedOk, SameRest], by simp [KeepsOthers, SameInputs, SameHash], nofun⟩

theorem completes_writeHash {i : Instr} (h sg l : Wide) (s : State)
    (hk : KeepsOthers i s (finishOk false (writeHash h sg l s))) :
    Completes i s (finishOk false (writeHash h sg l s)) :=
  .inr ⟨false, by simp [CompletedOk, SameRest], hk, nofun⟩

theorem completes_writeBnr {i : Instr} (r : Bool) (b : Nat) (s : State)
    (hk : KeepsOthers i s (finishOk r (writeBnr b s)))
    (hr : r = true → i = .bnMrRound ∨ i = .bnTrialdiv) :
    Completes i s (finishOk r (writeBnr b s)) :=
  .inr ⟨r, by simp [CompletedOk, SameRest], hk, hr⟩

theorem completes_finishOk (r : Bool) (s : State) : Completes .bnMrRound s (finishOk r s) :=
  .inr ⟨r, by simp [CompletedOk, SameRest], by simp [KeepsOthers, SameInputs, SameCt, SameHash],
    fun _ => .inl rfl⟩

/-- Every command answers a next state, and its own kind of completion. -/
theorem exec_completes (i : Instr) (s : State) : ∃ t, exec i s = .next t ∧ Completes i s t := by
  cases i with
  | cipherEnc => exact ⟨_, rfl, completes_writeCt _ s⟩
  | hashInit =>
    exact ⟨_, rfl, completes_writeHash _ _ _ s (by simp [KeepsOthers, SameInputs, SameCt])⟩
  | hashCompress =>
    exact ⟨_, rfl, completes_writeHash _ _ _ s (by simp [KeepsOthers, SameInputs, SameCt])⟩
  | hashBlock =>
    exact ⟨_, rfl, completes_writeHash _ _ _ s (by simp [KeepsOthers, SameInputs, SameCt])⟩
  | hashFinal nb =>
    by_cases h : nb.toNat ≤ 32
    · exact ⟨_, if_pos h, completes_writeHash _ _ _ s (by simp [KeepsOthers, SameInputs, SameCt])⟩
    · exact ⟨_, if_neg h, completes_error _ _ s⟩
  | bnModexp =>
    by_cases h : opM s = 0
    · exact ⟨_, execBnModexp_zero s h, completes_error _ _ s⟩
    · exact ⟨_, execBnModexp_ok s h,
        completes_writeBnr false _ s (by simp [KeepsOthers, SameInputs, SameCt, SameHash]) nofun⟩
  | bnModinv =>
    by_cases h : opM s = 0
    · exact ⟨_, execBnModinv_zero s h, completes_error _ _ s⟩
    by_cases hg : Nat.gcd (opA s) (opM s) = 1
    · exact ⟨_, execBnModinv_ok s h hg,
        completes_writeBnr false _ s (by simp [KeepsOthers, SameInputs, SameCt, SameHash]) nofun⟩
    · exact ⟨_, execBnModinv_none s h hg, completes_error _ _ s⟩
  | bnMrRound =>
    cases h : roundOperandsLegal (opM s) (opA s) with
    | false => exact ⟨_, execBnMrRound_error s h, completes_error _ _ s⟩
    | true => exact ⟨_, execBnMrRound_ok s h, completes_finishOk _ s⟩
  | bnTrialdiv =>
    have keeps (r : Bool) (b : Nat) : KeepsOthers .bnTrialdiv s (finishOk r (writeBnr b s)) := by
      simp [KeepsOthers, SameInputs, SameCt, SameHash]
    by_cases h : opM s < 2
    · exact ⟨_, execBnTrialdiv_small s h, completes_writeBnr _ _ s (keeps _ _) fun _ => .inr rfl⟩
    cases hp : smallFactor? (opM s) with
    | none =>
      exact ⟨_, execBnTrialdiv_none s h hp, completes_writeBnr _ _ s (keeps _ _) fun _ => .inr rfl⟩
    | some p =>
      exact ⟨_, execBnTrialdiv_some s p h hp,
        completes_writeBnr _ _ s (keeps _ _) fun _ => .inr rfl⟩

/-- A completion step ends an Illegal word in an error, or runs the command that LCMD holds. -/
theorem completeStep_completes {s t : State} (h : completeStep s = .next t) :
    (∃ c : ErrCode, CompletedErr c.code s t ∧ SameData s t) ∨
      ∃ i, decode s.lcmd = .ok i ∧ Completes i s t := by
  unfold completeStep at h
  split at h
  · obtain rfl := Host.Outcome.next.inj h
    exact .inl ⟨_, completedErr_finishError _ s⟩
  · next i hi =>
    obtain ⟨u, hu, hc⟩ := exec_completes i s
    obtain rfl : u = t := Host.Outcome.next.inj (hu.symm.trans h)
    exact .inr ⟨i, hi, hc⟩

/-- What every completion step does besides the data registers and the codes, success or error
(60_exceptions R182, R183, R184). -/
theorem completeStep_frame {s t : State} (h : completeStep s = .next t) :
    t.busy = false ∧ t.done = true ∧ t.doneIp = true ∧ SameRest s t := by
  obtain ⟨c, ⟨-, -, -, hdone, hbusy, hip, hrest⟩, -⟩ |
      ⟨i, -, ⟨c, ⟨-, -, -, hdone, hbusy, hip, hrest⟩, -⟩ |
        ⟨r, ⟨-, -, -, hdone, hbusy, hip, hrest⟩, -, -⟩⟩ := completeStep_completes h
  all_goals exact ⟨hbusy, hdone, hip, hrest⟩

/-! ### What a step makes of the tuple (00_scope R14) -/

/-- Everything a step can do to the tuple of R20: keep it, complete the command in progress, take
the reset values, or take an accepted write. The state `u` that a completion starts from may differ
from `s` in the model's own fields. -/
inductive StepEffect (s t : State) : Prop where
  | keep (h : SameBlock s t)
  | complete (u : State) (hbusy : s.busy = true) (hu : SameBlock s u)
      (h : completeStep u = .next t)
  | reset (rest : List Event) (hs : s.schedule = .reset :: rest) (h : SameBlock State.reset t)
  | write (tr : Transfer) (rest : List Event) (hs : s.schedule = .host tr :: rest)
      (ha : accepted tr = true) (hw : tr.write = true)
      (h : t = writeReg (regAt tr.off) tr.data { s with schedule := rest })

theorem step_effect {s t : State} (h : step s = .next t) : StepEffect s t := by
  obtain ⟨-, he⟩ | ⟨tr, rest, hs, ht⟩ | ⟨rest, hs, he⟩ | ⟨rest, hs, rfl⟩ := step_cases h
  case inl =>
    unfold engineStep at he
    split at he
    · next hb => exact .complete s hb rfl he
    · exact .keep (congrArg State.toArchState (Host.Outcome.next.inj he).symm)
  case inr.inl =>
    obtain ⟨ha, ⟨hw, rfl⟩ | ⟨-, rfl⟩⟩ := transfer_next ht
    · exact .write tr rest hs ha hw rfl
    · exact .keep rfl
  case inr.inr.inl =>
    obtain ⟨-, rfl⟩ | ⟨hb, hc⟩ | ⟨-, rfl⟩ := engineMove_cases he
    · exact .keep rfl
    · exact .complete (drawn { s with schedule := rest }) hb rfl hc
    · exact .keep rfl
  case inr.inr.inr => exact .reset rest hs rfl

/-! ### The invariant (10_state R26, R40) -/

/-- Settles O26: every STATUS bit resets to 0, which is a legal combination. -/
theorem resetSatisfiesTheInvariant : Obligations.ResetSatisfiesTheInvariant := by
  simp [Obligations.ResetSatisfiesTheInvariant, Machine.Inv, LegalStatus, LegalResult, State.reset,
    ArchState.reset]

/-- Two states agree on the status of the last command, which is all that `Inv` speaks of. -/
def SameCommandStatus (s t : State) : Prop :=
  t.busy = s.busy ∧ t.done = s.done ∧ t.err = s.err ∧ t.errcode = s.errcode ∧
    t.result = s.result ∧ t.lcmd = s.lcmd

theorem inv_of_sameCommandStatus {s t : State} (h : SameCommandStatus s t) (hi : Machine.Inv s) :
    Machine.Inv t := by
  obtain ⟨hb, hd, he, hc, hr, hl⟩ := h
  simpa only [Machine.Inv, LegalStatus, LegalResult, hb, hd, he, hc, hr, hl] using hi

theorem sameCommandStatus_of_sameBlock {s t : State} (h : SameBlock s t) :
    SameCommandStatus s t := by
  unfold SameBlock at h
  simp only [SameCommandStatus, h, and_self]

/-- The three codes of 60_exceptions R180. -/
theorem errCode_code_cases (c : ErrCode) : c.code = 1#4 ∨ c.code = 2#4 ∨ c.code = 3#4 := by
  cases c <;> simp [ErrCode.code]

theorem inv_of_completedErr {c : ErrCode} {s t : State} (h : CompletedErr c.code s t) :
    Machine.Inv t := by
  obtain ⟨hresult, herr, hcode, hdone, hbusy, -, -⟩ := h
  simp [Machine.Inv, LegalStatus, LegalResult, hresult, herr, hcode, hdone, hbusy,
    errCode_code_cases c]

/-- A success may set RESULT only for the two commands that choose it, and LCMD still holds it. -/
theorem inv_of_completedOk {r : Bool} {i : Instr} {s t : State} (h : CompletedOk r s t)
    (hi : decode s.lcmd = .ok i) (hr : r = true → i = .bnMrRound ∨ i = .bnTrialdiv) :
    Machine.Inv t := by
  obtain ⟨hresult, herr, hcode, hdone, hbusy, -, -, -, hlcmd, -⟩ := h
  refine ⟨by simp [LegalStatus, hbusy, herr, hcode], fun hres => ⟨hdone, herr, ?_⟩⟩
  rw [hlcmd, hi]
  exact (hr (hresult ▸ hres)).imp (congrArg _) (congrArg _)

theorem completeStep_inv {s t : State} (h : completeStep s = .next t) : Machine.Inv t := by
  obtain ⟨c, herr, -⟩ | ⟨i, hi, ⟨c, herr, -⟩ | ⟨r, hok, -, hr⟩⟩ := completeStep_completes h
  · exact inv_of_completedErr herr
  · exact inv_of_completedErr herr
  · exact inv_of_completedOk hok hi hr

theorem accept_inv (v : Word) (s : State) : Machine.Inv (accept v s) := by
  simp [Machine.Inv, LegalStatus, LegalResult]

/-- A write other than the acceptance of a command leaves the status of the last command. -/
theorem writeReg_commandStatus (r : Reg) (v : Word) (s : State) :
    (s.busy = false ∧ r = .cmd ∧ writeReg r v s = accept v s) ∨
      SameCommandStatus s (writeReg r v s) := by
  obtain h | ⟨-, -, h⟩ | ⟨-, h⟩ | ⟨-, -, h⟩ | ⟨-, -, h⟩ | haccept | ⟨-, -, h⟩ :=
    writeReg_cases r v s
  case inr.inr.inr.inr.inr.inl => exact .inl haccept
  all_goals exact .inr (by simp [h, SameCommandStatus])

theorem writeReg_inv (r : Reg) (v : Word) {s : State} (hi : Machine.Inv s) :
    Machine.Inv (writeReg r v s) := by
  obtain ⟨-, -, h⟩ | h := writeReg_commandStatus r v s
  · rw [h]
    exact accept_inv v s
  · exact inv_of_sameCommandStatus h hi

/-- Settles O25: by what a step can do. A completion establishes the invariant whatever held
before. -/
theorem stepKeepsTheInvariant : Obligations.StepKeepsTheInvariant := by
  intro s t hi h
  cases step_effect h with
  | keep hst => exact inv_of_sameCommandStatus (sameCommandStatus_of_sameBlock hst) hi
  | complete u _ _ hc => exact completeStep_inv hc
  | reset rest _ hst =>
    exact inv_of_sameCommandStatus (sameCommandStatus_of_sameBlock hst) resetSatisfiesTheInvariant
  | write tr rest _ _ _ ht =>
    subst ht
    exact writeReg_inv _ _ (s := { s with schedule := rest }) hi

/-! ### DONE_IP and the interrupt line (10_state R27, R28, R41; 60_exceptions R184, R189) -/

theorem completeStep_doneIp (s : State) : ∃ t, completeStep s = .next t ∧ t.doneIp = true := by
  obtain ⟨t, ht, -⟩ := completeStep_spec s
  obtain ⟨-, -, hip, -⟩ := completeStep_frame ht
  exact ⟨t, ht, hip⟩

/-- Of all register writes only a 1 to IRQ_PEND bit 0 acts on DONE_IP. -/
theorem writeReg_doneIp (r : Reg) (v : Word) (s : State) :
    (r = .irqPend ∧ v[0] = true ∧ writeReg r v s = clearDoneIp s) ∨
      (writeReg r v s).doneIp = s.doneIp := by
  obtain h | ⟨-, -, h⟩ | ⟨-, h⟩ | hclear | ⟨-, -, h⟩ | ⟨-, -, h⟩ | ⟨-, -, h⟩ := writeReg_cases r v s
  case inr.inr.inr.inl => exact .inl hclear
  all_goals exact .inr (by simp [h])

/-- A step that sets DONE_IP completed a command. -/
theorem step_sets_doneIp {s t : State} (h : step s = .next t) (hs : s.doneIp = false)
    (ht : t.doneIp = true) : s.busy = true ∧ t.busy = false ∧ t.done = true := by
  cases step_effect h with
  | keep hst =>
    have hsame : t.doneIp = s.doneIp := congrArg ArchState.doneIp hst
    simp [hs, ht] at hsame
  | complete u hbusy _ hc =>
    obtain ⟨hidle, hdone, -, -⟩ := completeStep_frame hc
    exact ⟨hbusy, hidle, hdone⟩
  | reset rest _ hst =>
    have hsame : t.doneIp = false := congrArg ArchState.doneIp hst
    simp [ht] at hsame
  | write tr rest _ _ _ hw =>
    subst hw
    obtain ⟨-, -, hclear⟩ | hsame :=
      writeReg_doneIp (regAt tr.off) tr.data { s with schedule := rest }
    · simp [hclear] at ht
    · simp [hsame, hs] at ht

/-- A step that clears DONE_IP wrote a 1 to IRQ_PEND bit 0, or was a reset. -/
theorem step_clears_doneIp {s t : State} (h : step s = .next t) (hs : s.doneIp = true)
    (ht : t.doneIp = false) :
    (∃ tr rest, s.schedule = .host tr :: rest ∧ accepted tr = true ∧ tr.write = true ∧
      regAt tr.off = .irqPend ∧ tr.data[0] = true) ∨ ∃ rest, s.schedule = .reset :: rest := by
  cases step_effect h with
  | keep hst =>
    have hsame : t.doneIp = s.doneIp := congrArg ArchState.doneIp hst
    simp [hs, ht] at hsame
  | complete u _ _ hc =>
    obtain ⟨-, -, hip, -⟩ := completeStep_frame hc
    simp [ht] at hip
  | reset rest hr _ => exact .inr ⟨rest, hr⟩
  | write tr rest hsched ha hwr hw =>
    subst hw
    obtain ⟨hreg, hbit, -⟩ | hsame :=
      writeReg_doneIp (regAt tr.off) tr.data { s with schedule := rest }
    · exact .inl ⟨tr, rest, hsched, ha, hwr, hreg, hbit⟩
    · simp [hsame, hs] at ht

theorem irqPendWord_eq (s : State) : irqPendWord s = if s.doneIp = true then 1#32 else 0#32 := by
  unfold irqPendWord
  cases s.doneIp <;> rfl

theorem irqEnWord_eq (s : State) : irqEnWord s = if s.doneIe = true then 1#32 else 0#32 := by
  unfold irqEnWord
  cases s.doneIe <;> rfl

theorem readData_irqPend (s : State) : readData 0x0014#13 s = irqPendWord s :=
  readData_eq _ s (readIsFree_input _ s rfl)

theorem readData_irqEn (s : State) : readData 0x0010#13 s = irqEnWord s :=
  readData_eq _ s (readIsFree_input _ s rfl)

theorem transfer_write_irqPend (s : State) (v : Word) : transfer (.writeWord 0x0014#13 v) s
    = .next (if v[0] = true then { s with doneIp := false } else s) :=
  transfer_writeWord _ v s rfl

theorem transfer_write_irqEn (s : State) (v : Word) : transfer (.writeWord 0x0010#13 v) s
    = .next { s with doneIe := v[0] } :=
  transfer_writeWord _ v s rfl

/-- Settles O22: the two directions are read off `step_effect` and `writeReg_doneIp`. -/
theorem donePendingIsSetByCompletionOnly : Obligations.DonePendingIsSetByCompletionOnly :=
  ⟨completeStep_doneIp, fun _ _ => step_sets_doneIp, fun _ _ => step_clears_doneIp,
    fun s => (readData_irqPend s).trans (irqPendWord_eq s), transfer_write_irqPend⟩

/-- Settles O23: `irq` is computed from the two bits that the writes of IRQ_EN and IRQ_PEND
store. -/
theorem interruptLineIsPendingAndEnabled : Obligations.InterruptLineIsPendingAndEnabled := by
  refine ⟨fun s => by simp [irq], fun s => (readData_irqEn s).trans (irqEnWord_eq s),
    transfer_write_irqEn, ?enable, ?mask, ?clear, fun s v => rfl, completeStep_doneIp⟩
  case enable =>
    intro s v hip hv
    exact ⟨_, transfer_write_irqEn s v, by simp [irq, hip, hv]⟩
  case mask =>
    intro s v hv
    exact ⟨_, transfer_write_irqEn s v, by simp [irq, hv], rfl⟩
  case clear =>
    intro s v hv
    exact ⟨_, transfer_write_irqPend s v, by simp [irq, hv]⟩

/-! ### OVERRUN (10_state R26, 60_exceptions R188) -/

/-- What a register write does to OVERRUN. -/
theorem writeReg_overrun (r : Reg) (v : Word) (s : State) :
    (r = .status ∧ v[3] = true ∧ writeReg r v s = clearOverrun s) ∨
      (s.busy = true ∧ (r = .cmd ∨ r.isData = true) ∧ writeReg r v s = setOverrun s) ∨
      (writeReg r v s).overrun = s.overrun := by
  obtain h | hclear | ⟨-, h⟩ | ⟨-, -, h⟩ | hset | ⟨-, -, h⟩ | ⟨-, -, h⟩ := writeReg_cases r v s
  case inr.inl => exact .inl hclear
  case inr.inr.inr.inr.inl => exact .inr (.inl hset)
  all_goals exact .inr (.inr (by simp [h]))

/-- No completion step acts on OVERRUN (10_state R26). -/
theorem completeStep_overrun {s t : State} (h : completeStep s = .next t) :
    t.overrun = s.overrun := by
  obtain ⟨-, -, -, hover, -⟩ := completeStep_frame h
  exact hover

/-- A step that changes OVERRUN was a reset, or a write: one to STATUS that clears it, or one to CMD
or a data register while BUSY that sets it. -/
theorem step_overrun {s t : State} (h : step s = .next t) :
    t.overrun = s.overrun ∨
    (t.overrun = false ∧ ∃ rest, s.schedule = .reset :: rest) ∨
    ∃ tr rest, s.schedule = .host tr :: rest ∧ accepted tr = true ∧ tr.write = true ∧
      ((t.overrun = false ∧ regAt tr.off = .status ∧ tr.data[3] = true) ∨
        (t.overrun = true ∧ s.busy = true ∧
          (regAt tr.off = .cmd ∨ (regAt tr.off).isData = true))) := by
  cases step_effect h with
  | keep hst => exact .inl (congrArg ArchState.overrun hst)
  | complete u _ hu hc =>
    exact .inl ((completeStep_overrun hc).trans (congrArg ArchState.overrun hu))
  | reset rest hr hst => exact .inr (.inl ⟨congrArg ArchState.overrun hst, rest, hr⟩)
  | write tr rest hsched ha hwr hw =>
    subst hw
    obtain ⟨hreg, hbit, hclear⟩ | ⟨hbusy, hreg, hset⟩ | hsame :=
      writeReg_overrun (regAt tr.off) tr.data { s with schedule := rest }
    · exact .inr (.inr ⟨tr, rest, hsched, ha, hwr, .inl ⟨by simp [hclear], hreg, hbit⟩⟩)
    · exact .inr (.inr ⟨tr, rest, hsched, ha, hwr, .inr ⟨by simp [hset], hbusy, hreg⟩⟩)
    · exact .inl hsame

/-- Settles O24: both directions are the cases of `step_overrun`. -/
theorem overrunIsSticky : Obligations.OverrunIsSticky := by
  refine ⟨fun s t h hs ht => ?_, fun s t h hs ht => ?_⟩
  · obtain hsame | ⟨hf, -⟩ | ⟨tr, rest, hsched, ha, hwr, ⟨hf, -⟩ | ⟨-, hbusy, hreg⟩⟩ :=
      step_overrun h
    · simp [hs, ht] at hsame
    · simp [ht] at hf
    · simp [ht] at hf
    · exact ⟨hbusy, tr, rest, hsched, ha, hwr, hreg⟩
  · obtain hsame | ⟨-, hr⟩ | ⟨tr, rest, hsched, ha, hwr, ⟨-, hreg, hbit⟩ | ⟨hf, -⟩⟩ :=
      step_overrun h
    · simp [hs, ht] at hsame
    · exact .inr hr
    · exact .inl ⟨tr, rest, hsched, ha, hwr, hreg, hbit⟩
    · simp [ht] at hf

/-! ### The result registers (10_state R33, R37) -/

/-- No host write reaches CT or BNR, which are read-only. -/
theorem writeReg_results (r : Reg) (v : Word) (s : State) :
    SameCt s (writeReg r v s) ∧ (writeReg r v s).bnr = s.bnr := by
  obtain h | ⟨-, -, h⟩ | ⟨-, h⟩ | ⟨-, -, h⟩ | ⟨-, -, h⟩ | ⟨-, -, h⟩ | ⟨-, -, h⟩ :=
    writeReg_cases r v s
  all_goals simp [h, SameCt]

theorem keepsOthers_sameCt {i : Instr} {s t : State} (h : KeepsOthers i s t) :
    SameCt s t ∨ i = .cipherEnc := by
  obtain ⟨-, hk⟩ := h
  cases i with
  | cipherEnc => exact .inr rfl
  | _ => exact .inl (by simp_all)

theorem keepsOthers_bnr {i : Instr} {s t : State} (h : KeepsOthers i s t) :
    t.bnr = s.bnr ∨ i = .bnModexp ∨ i = .bnModinv ∨ i = .bnTrialdiv := by
  obtain ⟨-, hk⟩ := h
  cases i with
  | bnModexp | bnModinv | bnTrialdiv => simp
  | _ => exact .inl (by simp_all)

/-- An error completion keeps CT and BNR, and a success changes only its own result register. -/
theorem completeStep_results {s t : State} (h : completeStep s = .next t) :
    (SameCt s t ∨ decode s.lcmd = .ok .cipherEnc) ∧
    (t.bnr = s.bnr ∨ decode s.lcmd = .ok .bnModexp ∨ decode s.lcmd = .ok .bnModinv ∨
      decode s.lcmd = .ok .bnTrialdiv) := by
  have of_sameData (hd : SameData s t) : SameCt s t ∧ t.bnr = s.bnr := by
    simp_all [SameData, SameCt]
  obtain ⟨-, -, hd⟩ | ⟨i, hi, ⟨-, -, hd⟩ | ⟨-, -, hk, -⟩⟩ := completeStep_completes h
  · exact (of_sameData hd).imp .inl .inl
  · exact (of_sameData hd).imp .inl .inl
  · simp only [hi, Except.ok.injEq]
    exact ⟨keepsOthers_sameCt hk, keepsOthers_bnr hk⟩

/-- A step other than a reset keeps CT and BNR or ends the command in progress. -/
theorem step_results {s t : State} (h : step s = .next t)
    (hr : ∀ rest, s.schedule ≠ .reset :: rest) :
    (SameCt s t ∧ t.bnr = s.bnr) ∨
      (s.busy = true ∧ t.busy = false ∧ ∃ u, SameBlock s u ∧ completeStep u = .next t) := by
  cases step_effect h with
  | keep hst =>
    unfold SameBlock at hst
    exact .inl (by simp [SameCt, hst])
  | complete u hbusy hu hc =>
    obtain ⟨hidle, -⟩ := completeStep_frame hc
    exact .inr ⟨hbusy, hidle, u, hu, hc⟩
  | reset rest hs _ => exact absurd hs (hr rest)
  | write tr rest _ _ _ hw =>
    subst hw
    exact .inl (writeReg_results _ _ { s with schedule := rest })

/-- Settles O27: a step that is no reset keeps both registers or is a completion, and a completion
writes only its own. -/
theorem resultsChangeOnlyAtCompletion : Obligations.ResultsChangeOnlyAtCompletion := by
  intro s t h hr
  obtain ⟨hct, hbnr⟩ | ⟨hbusy, hidle, u, hu, hc⟩ := step_results h hr
  · exact ⟨fun hne => absurd hct hne, fun hne => absurd hbnr hne⟩
  · unfold SameBlock at hu
    obtain ⟨hct, hbnr⟩ := completeStep_results hc
    simp only [SameCt, hu] at hct hbnr
    exact ⟨fun hne => ⟨hbusy, hidle, hct.resolve_left hne⟩,
      fun hne => ⟨hbusy, hidle, hbnr.resolve_left hne⟩⟩

/-! ### What a completion computes depends on the data registers and LCMD (30_encoding R86) -/

section SameData

variable {s s' t u : State}

theorem sameData_refl (s : State) : SameData s s := by simp [SameData]

theorem sameData_trans (h : SameData s t) (h' : SameData t u) : SameData s u := by
  simp_all [SameData]

theorem sameData_of_sameBlock (h : SameBlock s t) : SameData s t := by
  unfold SameBlock at h
  simp [SameData, h]

theorem writeCt_congr (c : Block) (h : SameData s s') :
    SameData (writeCt c s) (writeCt c s') := by
  simp_all [SameData]

theorem writeHash_congr (x y z : Wide) (h : SameData s s') :
    SameData (writeHash x y z s) (writeHash x y z s') := by
  simp_all [SameData]

theorem writeBnr_congr (n : Nat) (h : SameData s s') :
    SameData (writeBnr n s) (writeBnr n s') := by
  simp_all [SameData]

end SameData

/-- Two completions that leave the same data registers, RESULT, ERR and ERRCODE. -/
def SameCompletion (o o' : Host.Outcome State Fault Refusal) : Prop :=
  ∃ t t', o = .next t ∧ o' = .next t' ∧ SameData t t' ∧
    t'.result = t.result ∧ t'.err = t.err ∧ t'.errcode = t.errcode

theorem sameCompletion_finishOk {s s' : State} (r : Bool) (h : SameData s s') :
    SameCompletion (.next (finishOk r s)) (.next (finishOk r s')) :=
  ⟨_, _, rfl, rfl, h, rfl, rfl, rfl⟩

theorem sameCompletion_finishError {s s' : State} (c : ErrCode) (h : SameData s s') :
    SameCompletion (.next (finishError c s)) (.next (finishError c s')) :=
  ⟨_, _, rfl, rfl, h, rfl, rfl, rfl⟩

/-- A command reads its operands from the data registers alone: not from STATUS, the interrupt bits
or the model's own fields. -/
theorem exec_congr (i : Instr) {s s' : State} (h : SameData s s') :
    SameCompletion (exec i s) (exec i s') := by
  have ⟨hkey, hlo, hhi, _, _, hhm, hhh, hhs, hhl, hbna, hbnb, hbnm, _⟩ := h
  have hA : opA s' = opA s := congrArg BitVec.toNat hbna
  have hB : opB s' = opB s := congrArg BitVec.toNat hbnb
  have hM : opM s' = opM s := congrArg BitVec.toNat hbnm
  cases i with
  | cipherEnc =>
    simp only [exec, execCipherEnc, blk, hkey, hlo, hhi]
    exact sameCompletion_finishOk _ (writeCt_congr _ h)
  | hashInit => exact sameCompletion_finishOk _ (writeHash_congr _ _ _ h)
  | hashCompress =>
    simp only [exec, execHashCompress, hhm, hhh, hhs, hhl]
    exact sameCompletion_finishOk _ (writeHash_congr _ _ _ h)
  | hashBlock =>
    simp only [exec, execHashBlock, hhm, hhh, hhs, hhl]
    exact sameCompletion_finishOk _ (writeHash_congr _ _ _ h)
  | hashFinal nb =>
    simp only [exec, execHashFinal, hhm, hhh, hhs, hhl]
    by_cases hnb : nb.toNat ≤ 32
    · simpa only [if_pos hnb] using sameCompletion_finishOk _ (writeHash_congr _ _ _ h)
    · simpa only [if_neg hnb] using sameCompletion_finishError _ h
  | bnModexp =>
    simp only [exec, execBnModexp, hA, hB, hM]
    by_cases hz : opM s = 0
    · simpa only [if_pos hz] using sameCompletion_finishError _ h
    · simpa only [if_neg hz] using sameCompletion_finishOk _ (writeBnr_congr _ h)
  | bnModinv =>
    simp only [exec, execBnModinv, hA, hM]
    by_cases hz : opM s = 0
    · simpa only [if_pos hz] using sameCompletion_finishError _ h
    by_cases hg : Nat.gcd (opA s) (opM s) ≠ 1
    · simpa only [if_neg hz, if_pos hg] using sameCompletion_finishError _ h
    · simpa only [if_neg hz, if_neg hg] using sameCompletion_finishOk _ (writeBnr_congr _ h)
  | bnMrRound =>
    simp only [exec, execBnMrRound, hA, hM]
    by_cases hok : roundOperandsLegal (opM s) (opA s) = true
    · simpa only [if_pos hok] using sameCompletion_finishOk _ h
    · simpa only [if_neg hok] using sameCompletion_finishError _ h
  | bnTrialdiv =>
    simp only [exec, execBnTrialdiv, hM]
    by_cases hlt : opM s < 2
    · simpa only [if_pos hlt] using sameCompletion_finishOk _ (writeBnr_congr _ h)
    simp only [if_neg hlt]
    cases smallFactor? (opM s) with
    | none => exact sameCompletion_finishOk _ (writeBnr_congr _ h)
    | some p => exact sameCompletion_finishOk _ (writeBnr_congr _ h)

theorem completeStep_congr {s s' : State} (h : SameData s s') (hl : s'.lcmd = s.lcmd) :
    SameCompletion (completeStep s) (completeStep s') := by
  unfold completeStep
  rw [hl]
  cases decode s.lcmd with
  | error e => exact sameCompletion_finishError _ h
  | ok i => exact exec_congr i h

/-! ### The tuple of R20 does not depend on the model's own fields (log entries 1, 5, 6) -/

/-- The fields of the tuple, one by one (10_state R20). -/
theorem sameBlock_of_fields {s t : State} (hd : SameData s t) (hst : SameCommandStatus s t)
    (ho : t.overrun = s.overrun) (he : t.doneIe = s.doneIe) (hp : t.doneIp = s.doneIp) :
    SameBlock s t := by
  obtain ⟨⟨⟩, _, _, _⟩ := s
  obtain ⟨⟨⟩, _, _, _⟩ := t
  simp_all [SameData, SameCommandStatus, SameBlock]

theorem completeStep_sameBlock {s s' : State} (h : SameBlock s s') :
    ∃ t t', completeStep s = .next t ∧ completeStep s' = .next t' ∧ SameBlock t t' := by
  obtain ⟨hb, hd, he, hc, hr, hl⟩ := sameCommandStatus_of_sameBlock h
  obtain ⟨t, t', ht, ht', hdata, hres, herr, hcode⟩ :=
    completeStep_congr (sameData_of_sameBlock h) hl
  obtain ⟨hbusy, hdone, hip, hover, hie, hlcmd, -⟩ := completeStep_frame ht
  obtain ⟨hbusy', hdone', hip', hover', hie', hlcmd', -⟩ := completeStep_frame ht'
  unfold SameBlock at h
  refine ⟨t, t', ht, ht', sameBlock_of_fields hdata ⟨?_, ?_, herr, hcode, hres, ?_⟩ ?_ ?_ ?_⟩
  · rw [hbusy, hbusy']
  · rw [hdone, hdone']
  · rw [hlcmd, hlcmd', h]
  · rw [hover, hover', h]
  · rw [hie, hie', h]
  · rw [hip, hip']

theorem writeData_sameBlock (r : Reg) (v : Word) {s s' : State} (h : SameBlock s s') :
    SameBlock (writeData r v s) (writeData r v s') := by
  unfold SameBlock at h
  cases r <;> simp [writeData, SameBlock, h]

theorem writeReg_sameBlock (r : Reg) (v : Word) {s s' : State} (h : SameBlock s s') :
    SameBlock (writeReg r v s) (writeReg r v s') := by
  have hb : s'.busy = s.busy := congrArg ArchState.busy h
  have hfields : s'.toArchState = s.toArchState := h
  cases hd : r.isData with
  | true =>
    rw [writeReg_data r v s hd, writeReg_data r v s' hd, hb]
    split
    · simp [SameBlock, setOverrun, hfields]
    · exact writeData_sameBlock r v h
  | false =>
    cases r with
    | status => cases hv : v[3] <;> simp [hv, SameBlock, clearOverrun, hfields]
    | irqEn => simp [SameBlock, setDoneIe, hfields]
    | irqPend => cases hv : v[0] <;> simp [hv, SameBlock, clearDoneIp, hfields]
    | cmd => cases hbusy : s.busy <;> simp [hbusy, SameBlock, setOverrun, accept, hfields]
    | _ =>
      rw [writeReg_ignored _ v s hd nofun nofun nofun nofun,
        writeReg_ignored _ v s' hd nofun nofun nofun nofun]
      exact h

theorem transfer_sameBlock (tr : Transfer) {s s' : State} (h : SameBlock s s') :
    (transfer tr s = .fault .busError ∧ transfer tr s' = .fault .busError) ∨
    ∃ t t', transfer tr s = .next t ∧ transfer tr s' = .next t' ∧ SameBlock t t' := by
  cases ha : accepted tr with
  | false => exact .inl ⟨transfer_refused tr s ha, transfer_refused tr s' ha⟩
  | true =>
    refine .inr ⟨_, _, if_pos ha, if_pos ha, ?_⟩
    cases tr.write with
    | true => exact writeReg_sameBlock _ _ h
    | false => exact h

/-! ### A busy block under harmless events (60_exceptions R182, 70_reset R224) -/

/-- While BUSY no register write reaches a data register or the status of the command (20_memory
R65). -/
theorem writeReg_busy (r : Reg) (v : Word) {s : State} (hb : s.busy = true) :
    SameData s (writeReg r v s) ∧ SameCommandStatus s (writeReg r v s) := by
  obtain h | ⟨-, -, h⟩ | ⟨-, h⟩ | ⟨-, -, h⟩ | ⟨-, -, h⟩ | ⟨hidle, -⟩ | ⟨hidle, -⟩ :=
    writeReg_cases r v s
  case inr.inr.inr.inr.inr.inl | inr.inr.inr.inr.inr.inr => simp [hb] at hidle
  all_goals simp [h, SameData, SameCommandStatus]

theorem transfer_accepted {tr : Transfer} (s : State) (h : accepted tr = true) :
    ∃ t, transfer tr s = .next t :=
  ⟨_, if_pos h⟩

theorem engineMove_next (s : State) : ∃ t, engineMove s = .next t := by
  unfold engineMove
  obtain ⟨t, ht, -⟩ := completeStep_spec (drawn s)
  split
  · split
    · exact ⟨t, ht⟩
    · exact ⟨_, rfl⟩
  · exact ⟨_, rfl⟩

theorem step_harmless_next {s : State} {e : Event} {rest : List Event}
    (hs : s.schedule = e :: rest) (he : Harmless e) : ∃ t, step s = .next t := by
  rw [step_cons hs]
  obtain rfl | ⟨tr, rfl, ha⟩ := he
  · exact engineMove_next _
  · exact transfer_accepted _ ha

/-- `u` still runs the command of `s`, with its operands. -/
def InProgress (s u : State) : Prop := u.busy = true ∧ SameData s u ∧ u.lcmd = s.lcmd

/-- The next step of `u` is its completion step, whatever completes it. -/
def CompletesNext (u : State) : Prop :=
  ∃ v t, step u = .next v ∧ v.busy = false ∧ completeStep u = .next t ∧ SameBlock v t

/-- A harmless event of a busy block keeps the command in progress, or is its completion. -/
theorem step_harmless {s t : State} {e : Event} {rest : List Event} (hb : s.busy = true)
    (hs : s.schedule = e :: rest) (he : Harmless e) (h : step s = .next t) :
    InProgress s t ∨ CompletesNext s := by
  cases step_effect h with
  | keep hst =>
    have hbusy : t.busy = s.busy := congrArg ArchState.busy hst
    exact .inl ⟨hbusy.trans hb, sameData_of_sameBlock hst, congrArg ArchState.lcmd hst⟩
  | complete u _ hu hc =>
    obtain ⟨t', t'', ht', ht'', hsame⟩ := completeStep_sameBlock (Eq.symm hu : SameBlock u s)
    obtain rfl : t = t' := Host.Outcome.next.inj (hc.symm.trans ht')
    obtain ⟨hidle, -⟩ := completeStep_frame hc
    exact .inr ⟨t, t'', h, hidle, ht'', hsame⟩
  | reset rest' hr _ =>
    obtain ⟨rfl, -⟩ := List.cons.inj (hs.symm.trans hr)
    simp [Harmless] at he
  | write tr rest' _ _ _ hw =>
    subst hw
    obtain ⟨hdata, hbusy, -, -, -, -, hlcmd⟩ :=
      writeReg_busy (regAt tr.off) tr.data (s := { s with schedule := rest' }) hb
    exact .inl ⟨hbusy.trans hb, hdata, hlcmd⟩

theorem runSteps_succ {s t : State} (k : Nat) (h : step s = .next t) :
    runSteps (k + 1) s = runSteps k t := by
  simp [runSteps, h]

/-- A command stays in progress through all of the harmless events, or through the first `k` of
them, its completion being the next step. -/
theorem runSteps_inProgress (es rest : List Event) (s : State) (hb : s.busy = true)
    (hs : s.schedule = es ++ rest) (he : ∀ e ∈ es, Harmless e) :
    ∃ k u, k ≤ es.length ∧ runSteps k s = .next u ∧ u.schedule = es.drop k ++ rest ∧
      InProgress s u ∧ (k = es.length ∨ CompletesNext u) := by
  induction es generalizing s with
  | nil => exact ⟨0, s, le_rfl, rfl, hs, ⟨hb, sameData_refl s, rfl⟩, .inl rfl⟩
  | cons e es ih =>
    obtain ⟨t, ht⟩ := step_harmless_next hs (he e List.mem_cons_self)
    obtain ⟨hbusy, hdata, hlcmd⟩ | hnext := step_harmless hb hs (he e List.mem_cons_self) ht
    · obtain ⟨k, u, hk, hrun, hsched, ⟨hbusy', hdata', hlcmd'⟩, hend⟩ :=
        ih t hbusy (step_cons_schedule hs ht) fun e' h' => he e' (List.mem_cons_of_mem e h')
      exact ⟨k + 1, u, Nat.succ_le_succ hk, (runSteps_succ k ht).trans hrun, hsched,
        ⟨hbusy', sameData_trans hdata hdata', hlcmd'.trans hlcmd⟩,
        hend.imp_left (congrArg (· + 1))⟩
    · exact ⟨0, s, Nat.zero_le _, rfl, hs, ⟨hb, sameData_refl s, rfl⟩, .inr hnext⟩

/-- Settles O29: the operands survive the events, and a completion depends on the operands alone. -/
theorem resultsIndependentOfLatencyAndTraffic :
    Obligations.ResultsIndependentOfLatencyAndTraffic := by
  refine ⟨?_, fun tr _ _ h => transfer_sameBlock tr h, fun _ _ h => completeStep_sameBlock h,
    fun _ _ => rfl⟩
  intro es rest s hb hs he
  obtain ⟨k, u, hk, hrun, hsched, ⟨hbusy, hdata, hlcmd⟩, hend⟩ :=
    runSteps_inProgress es rest s hb hs he
  obtain ⟨t, t', ht, ht', hdata', hres, herr, hcode⟩ := completeStep_congr hdata hlcmd
  have hend' : k = es.length ∨ ∃ v, step u = .next v ∧ v.busy = false ∧ SameBlock v t' := by
    refine hend.imp_right fun ⟨v, w, hv, hidle, hw, hsame⟩ => ⟨v, hv, hidle, ?_⟩
    obtain rfl : w = t' := Host.Outcome.next.inj (hw.symm.trans ht')
    exact hsame
  exact ⟨k, u, t, t', hk, hrun, hsched, hbusy, hdata, hlcmd, hend', ht, ht', hdata', hres, herr,
    hcode⟩

/-! ### The register map (10_state R22) -/

/-- The register at a multiple of 4 stands at that word index. -/
theorem regAt_four_mul {n : Nat} (h : n < 0x800) :
    regAt (BitVec.ofNat 13 (4 * n)) = regAtWord n := by
  unfold regAt
  congr 1
  simp only [BitVec.toNat_ofNat]
  omega

/-- An aligned offset is 4 times its word index. -/
theorem offset_eq_four_mul {off : Offset} (h : off.toNat % 4 = 0) :
    off = BitVec.ofNat 13 (4 * (off.toNat / 4)) := by
  apply BitVec.eq_of_toNat_eq
  simp only [BitVec.toNat_ofNat]
  omega

/-- Word `j` of a row that starts at word index `b`. -/
theorem regAt_row {b j : Nat} {r : Reg} (h : b + j < 0x800) (hr : regAtWord (b + j) = r) :
    regAt (BitVec.ofNat 13 (4 * b + 4 * j)) = r := by
  rw [← Nat.mul_add, regAt_four_mul h, hr]

section Rows

variable (i : Fin 8) (j : Fin 256)

@[simp] theorem regAtWord_key : regAtWord (0x10 + i.val) = .key i := by
  simp (disch := omega) only [regAtWord, if_neg, if_pos, Nat.add_sub_cancel_left,
    Fin.ofNat_val_eq_self]

@[simp] theorem regAtWord_hm : regAtWord (0x20 + i.val) = .hm i := by
  simp (disch := omega) only [regAtWord, if_neg, if_pos, Nat.add_sub_cancel_left,
    Fin.ofNat_val_eq_self]

@[simp] theorem regAtWord_hh : regAtWord (0x28 + i.val) = .hh i := by
  simp (disch := omega) only [regAtWord, if_neg, if_pos, Nat.add_sub_cancel_left,
    Fin.ofNat_val_eq_self]

@[simp] theorem regAtWord_hs : regAtWord (0x30 + i.val) = .hs i := by
  simp (disch := omega) only [regAtWord, if_neg, if_pos, Nat.add_sub_cancel_left,
    Fin.ofNat_val_eq_self]

@[simp] theorem regAtWord_hl : regAtWord (0x38 + i.val) = .hl i := by
  simp (disch := omega) only [regAtWord, if_neg, if_pos, Nat.add_sub_cancel_left,
    Fin.ofNat_val_eq_self]

@[simp] theorem regAtWord_bna : regAtWord (0x400 + j.val) = .bna j := by
  simp (disch := omega) only [regAtWord, if_neg, if_pos, Nat.add_sub_cancel_left,
    Fin.ofNat_val_eq_self]

@[simp] theorem regAtWord_bnb : regAtWord (0x500 + j.val) = .bnb j := by
  simp (disch := omega) only [regAtWord, if_neg, if_pos, Nat.add_sub_cancel_left,
    Fin.ofNat_val_eq_self]

@[simp] theorem regAtWord_bnm : regAtWord (0x600 + j.val) = .bnm j := by
  simp (disch := omega) only [regAtWord, if_neg, if_pos, Nat.add_sub_cancel_left,
    Fin.ofNat_val_eq_self]

@[simp] theorem regAtWord_bnr : regAtWord (0x700 + j.val) = .bnr j := by
  simp (disch := omega) only [regAtWord, if_neg, Nat.add_sub_cancel_left, Fin.ofNat_val_eq_self]

theorem regAt_key : regAt (BitVec.ofNat 13 (0x0040 + 4 * i.val)) = .key i :=
  regAt_row (b := 0x10) (by omega) (by simp)

theorem regAt_hm : regAt (BitVec.ofNat 13 (0x0080 + 4 * i.val)) = .hm i :=
  regAt_row (b := 0x20) (by omega) (by simp)

theorem regAt_hh : regAt (BitVec.ofNat 13 (0x00A0 + 4 * i.val)) = .hh i :=
  regAt_row (b := 0x28) (by omega) (by simp)

theorem regAt_hs : regAt (BitVec.ofNat 13 (0x00C0 + 4 * i.val)) = .hs i :=
  regAt_row (b := 0x30) (by omega) (by simp)

theorem regAt_hl : regAt (BitVec.ofNat 13 (0x00E0 + 4 * i.val)) = .hl i :=
  regAt_row (b := 0x38) (by omega) (by simp)

theorem regAt_bna : regAt (BitVec.ofNat 13 (0x1000 + 4 * j.val)) = .bna j :=
  regAt_row (b := 0x400) (by omega) (by simp)

theorem regAt_bnb : regAt (BitVec.ofNat 13 (0x1400 + 4 * j.val)) = .bnb j :=
  regAt_row (b := 0x500) (by omega) (by simp)

theorem regAt_bnm : regAt (BitVec.ofNat 13 (0x1800 + 4 * j.val)) = .bnm j :=
  regAt_row (b := 0x600) (by omega) (by simp)

theorem regAt_bnr : regAt (BitVec.ofNat 13 (0x1C00 + 4 * j.val)) = .bnr j :=
  regAt_row (b := 0x700) (by omega) (by simp)

end Rows

/-- The offsets of a row are aligned: the window's size is a multiple of 4. -/
theorem aligned_row (b j : Nat) :
    (BitVec.ofNat 13 (4 * b + 4 * j) : Offset).toNat % 4 = 0 := by
  rw [BitVec.toNat_ofNat]
  omega

/-- The map finds each register at its offset. -/
theorem regAt_of_offset? {r : Reg} {off : Offset} (h : r.offset? = some off) :
    off.toNat % 4 = 0 ∧ regAt off = r := by
  cases r <;> simp only [Reg.offset?, Option.some.injEq, reduceCtorEq] at h <;> subst h
  case key j => exact ⟨aligned_row 0x10 j, regAt_key j⟩
  case hm j => exact ⟨aligned_row 0x20 j, regAt_hm j⟩
  case hh j => exact ⟨aligned_row 0x28 j, regAt_hh j⟩
  case hs j => exact ⟨aligned_row 0x30 j, regAt_hs j⟩
  case hl j => exact ⟨aligned_row 0x38 j, regAt_hl j⟩
  case bna j => exact ⟨aligned_row 0x400 j, regAt_bna j⟩
  case bnb j => exact ⟨aligned_row 0x500 j, regAt_bnb j⟩
  case bnm j => exact ⟨aligned_row 0x600 j, regAt_bnm j⟩
  case bnr j => exact ⟨aligned_row 0x700 j, regAt_bnr j⟩
  all_goals exact ⟨rfl, rfl⟩

/-- The reserved ranges, in words (10_state R22). -/
def ReservedWord (n : Nat) : Prop :=
  (6 ≤ n ∧ n < 0x10) ∨ (0x1C ≤ n ∧ n < 0x20) ∨ (0x40 ≤ n ∧ n < 0x400)

theorem regAtWord_of_reservedWord {n : Nat} (h : ReservedWord n) : regAtWord n = .reserved := by
  obtain ⟨hlo, hhi⟩ | ⟨hlo, hhi⟩ | ⟨hlo, hhi⟩ := h
  all_goals simp (disch := omega) only [regAtWord, if_neg, if_pos]

/-- A row `r` of `m` words from word index `b` holds word `n`. -/
theorem exists_row {n b m : Nat} {r : Fin m → Reg} (hb : b ≤ n) (hm : n < b + m)
    (hr : ∀ j, (r j).offset? = some (BitVec.ofNat 13 (4 * b + 4 * j.val))) :
    ∃ q : Reg, q.offset? = some (BitVec.ofNat 13 (4 * n)) := by
  refine ⟨r ⟨n - b, by omega⟩, (hr _).trans ?_⟩
  congr 2
  dsimp only
  omega

/-- Every word of the window that is not reserved is the word of some register. -/
theorem exists_offset?_of_not_reservedWord {n : Nat} (hn : n < 0x800) (h : ¬ ReservedWord n) :
    ∃ r : Reg, r.offset? = some (BitVec.ofNat 13 (4 * n)) := by
  have hrange : n < 6 ∨ (0x10 ≤ n ∧ n < 0x18) ∨ (0x18 ≤ n ∧ n < 0x1C) ∨ (0x20 ≤ n ∧ n < 0x28) ∨
      (0x28 ≤ n ∧ n < 0x30) ∨ (0x30 ≤ n ∧ n < 0x38) ∨ (0x38 ≤ n ∧ n < 0x40) ∨
      (0x400 ≤ n ∧ n < 0x500) ∨ (0x500 ≤ n ∧ n < 0x600) ∨ (0x600 ≤ n ∧ n < 0x700) ∨
      (0x700 ≤ n ∧ n < 0x800) := by
    unfold ReservedWord at h
    omega
  obtain h | ⟨hlo, hhi⟩ | ⟨hlo, hhi⟩ | ⟨hlo, hhi⟩ | ⟨hlo, hhi⟩ | ⟨hlo, hhi⟩ | ⟨hlo, hhi⟩ |
    ⟨hlo, hhi⟩ | ⟨hlo, hhi⟩ | ⟨hlo, hhi⟩ | ⟨hlo, hhi⟩ := hrange
  · exact exists_row (b := 0) (m := 6) (r := ![.id, .features, .cmd, .status, .irqEn, .irqPend])
      (Nat.zero_le n) (by omega) (by decide)
  · exact exists_row (r := Reg.key) hlo hhi fun _ => rfl
  · exact exists_row (m := 4) (r := ![.blkLo, .blkHi, .ctLo, .ctHi]) hlo hhi (by decide)
  · exact exists_row (r := Reg.hm) hlo hhi fun _ => rfl
  · exact exists_row (r := Reg.hh) hlo hhi fun _ => rfl
  · exact exists_row (r := Reg.hs) hlo hhi fun _ => rfl
  · exact exists_row (r := Reg.hl) hlo hhi fun _ => rfl
  · exact exists_row (r := Reg.bna) hlo hhi fun _ => rfl
  · exact exists_row (r := Reg.bnb) hlo hhi fun _ => rfl
  · exact exists_row (r := Reg.bnm) hlo hhi fun _ => rfl
  · exact exists_row (r := Reg.bnr) hlo hhi fun _ => rfl

/-- An aligned offset is reserved, or it is the offset of the register that the map finds there. -/
theorem regAt_cases {off : Offset} (h : off.toNat % 4 = 0) :
    (ReservedWord (off.toNat / 4) ∧ regAt off = .reserved) ∨
      (¬ ReservedWord (off.toNat / 4) ∧ (regAt off).offset? = some off) := by
  by_cases hres : ReservedWord (off.toNat / 4)
  · exact .inl ⟨hres, regAtWord_of_reservedWord hres⟩
  · obtain ⟨r, hr⟩ := exists_offset?_of_not_reservedWord (by omega) hres
    rw [← offset_eq_four_mul h] at hr
    obtain ⟨-, hreg⟩ := regAt_of_offset? hr
    exact .inr ⟨hres, hreg.symm ▸ hr⟩

theorem regAt_eq_reserved_iff {off : Offset} (h : off.toNat % 4 = 0) :
    regAt off = .reserved ↔ ReservedWord (off.toNat / 4) := by
  obtain ⟨hres, hreg⟩ | ⟨hres, hoff⟩ := regAt_cases h
  · exact iff_of_true hreg hres
  · exact iff_of_false (fun hreg => by simp [hreg, Reg.offset?] at hoff) hres

/-- Settles O6: the rows, and that together with the reserved ranges they fill the window. -/
theorem registerMapIsOneToOne : Obligations.RegisterMapIsOneToOne := by
  refine ⟨by decide, fun j => ⟨regAt_key j, regAt_hm j, regAt_hh j, regAt_hs j, regAt_hl j⟩,
    fun j => ⟨regAt_bna j, regAt_bnb j, regAt_bnm j, regAt_bnr j⟩, ?reserved,
    fun _ _ => regAt_of_offset?, ?offset⟩
  case reserved =>
    intro off h
    rw [regAt_eq_reserved_iff h, ReservedWord]
    omega
  case offset =>
    intro off h hne
    obtain ⟨-, hreg⟩ | ⟨-, hoff⟩ := regAt_cases h
    · exact absurd hreg hne
    · exact hoff

/-! ### ID, FEATURES and STATUS (10_state R23, R24, R26) -/

theorem readData_id (s : State) : readData 0x0000#13 s = idWord :=
  readData_eq _ s (readIsFree_input _ s rfl)

theorem readData_features (s : State) : readData 0x0004#13 s = featuresWord :=
  readData_eq _ s (readIsFree_input _ s rfl)

theorem readData_status (s : State) : readData 0x000C#13 s = statusWord s :=
  readData_eq _ s (readIsFree_input _ s rfl)

/-- The fields of a word of 8, 8 and 16 bits. -/
theorem extractLsb'_fields (a b : BitVec 8) (c : BitVec 16) :
    (a ++ b ++ c).extractLsb' 0 16 = c ∧ (a ++ b ++ c).extractLsb' 16 8 = b ∧
      (a ++ b ++ c).extractLsb' 24 8 = a := by
  refine ⟨BitVec.extractLsb'_append_eq_right, ?_, ?_⟩
  · rw [BitVec.extractLsb'_append_eq_of_le (by decide), BitVec.extractLsb'_append_eq_right]
  · rw [BitVec.extractLsb'_append_eq_of_le (by decide), BitVec.extractLsb'_append_eq_left]

theorem featuresWord_fields :
    featuresWord.extractLsb' 0 16 = BitVec.ofNat 16 Config.bnWords ∧
      featuresWord.extractLsb' 16 8 = 0x01#8 ∧ featuresWord.extractLsb' 24 8 = 0x00#8 :=
  extractLsb'_fields 0#8 sboxId (BitVec.ofNat 16 Config.bnWords)

/-- BN_WORDS of FEATURES: W/32 is at most 256 and so fits. -/
theorem featuresWord_bnWords : (featuresWord.extractLsb' 0 16).toNat = Config.bnWords := by
  have hrange := bnWords_range
  obtain ⟨hlow, -, -⟩ := featuresWord_fields
  rw [hlow, BitVec.toNat_ofNat]
  omega

/-- A write to a register that ignores writes, busy or not (10_state R29, R39). -/
theorem writeReg_of_ignoresWrites {r : Reg} (h : IgnoresWrites r) (v : Word) (s : State) :
    writeReg r v s = s := by
  obtain rfl | rfl | rfl | rfl | rfl | ⟨j, rfl⟩ | ⟨j, hj, rfl | rfl | rfl⟩ := h
  case inr.inr.inr.inr.inr.inr.inl | inr.inr.inr.inr.inr.inr.inr.inl |
      inr.inr.inr.inr.inr.inr.inr.inr =>
    exact writeReg_ignored _ v s (by simpa [Reg.isData] using hj) nofun nofun nofun nofun
  all_goals exact writeReg_ignored _ v s rfl nofun nofun nofun nofun

theorem transfer_write_ignored {off : Offset} (v : Word) (s : State) (ha : off.toNat % 4 = 0)
    (h : IgnoresWrites (regAt off)) : transfer (.writeWord off v) s = .next s := by
  rw [transfer_writeWord off v s ha, busWrite, writeReg_of_ignoresWrites h]

/-- Settles O7: neither register is an output register, and both ignore writes. -/
theorem identityRegistersAreConstant : Obligations.IdentityRegistersAreConstant := by
  obtain ⟨-, hsbox, htop⟩ := featuresWord_fields
  obtain ⟨hmin, hmax⟩ := bnWords_range
  refine ⟨readData_id, fun s => ⟨_, readData_features s, ?_, ?_, ?_, hsbox, htop⟩,
    fun s v => transfer_write_ignored v s rfl (.inl rfl),
    fun s v => transfer_write_ignored v s rfl (.inr (.inl rfl))⟩
  all_goals rw [featuresWord_bnWords]
  · rfl
  · exact hmin
  · exact hmax

theorem transfer_write_status (s : State) (v : Word) : transfer (.writeWord 0x000C#13 v) s
    = .next (if v[3] = true then { s with overrun := false } else s) :=
  transfer_writeWord _ v s rfl

/-- The fields of a word laid out as STATUS is (10_state R26). -/
theorem status_layout (a : BitVec 23) (c : BitVec 4) (r o e d b : Bool) :
    let w := a ++ BitVec.ofBool r ++ c ++ BitVec.ofBool o ++ BitVec.ofBool e ++ BitVec.ofBool d ++
      BitVec.ofBool b
    w[0] = b ∧ w[1] = d ∧ w[2] = e ∧ w[3] = o ∧ w.extractLsb' 4 4 = c ∧ w[8] = r ∧
      w.extractLsb' 9 23 = a := by
  refine ⟨?_, ?_, ?_, ?_, ?_, ?_, ?_⟩
  case refine_5 | refine_7 =>
    simp only [BitVec.extractLsb'_append_eq_of_le, BitVec.extractLsb'_append_eq_right,
      BitVec.extractLsb'_eq_self, Nat.reduceSub, Nat.reduceLeDiff]
  all_goals
    simp only [BitVec.getElem_append]
    simp

theorem statusWord_fields (s : State) :
    (statusWord s)[0] = s.busy ∧ (statusWord s)[1] = s.done ∧ (statusWord s)[2] = s.err ∧
    (statusWord s)[3] = s.overrun ∧ (statusWord s).extractLsb' 4 4 = s.errcode ∧
    (statusWord s)[8] = s.result ∧ (statusWord s).extractLsb' 9 23 = 0#23 :=
  status_layout 0#23 s.errcode s.result s.overrun s.err s.done s.busy

/-- Settles O8: by the layout of the word, and the write rule of STATUS. -/
theorem statusRegisterFields : Obligations.StatusRegisterFields := by
  refine ⟨fun s => ⟨_, readData_status s, statusWord_fields s⟩, fun s v hv => ?_, fun s v hv => ?_⟩
  · rw [transfer_write_status, if_pos hv]
  · rw [transfer_write_status, hv]
    rfl

/-! ### Reads of the window (10_state R29, 20_memory R63) -/

theorem bnWord_absent (r : BnInt) {j : Fin 256} (h : Config.bnWords ≤ j.val) :
    bnWord r j = 0#32 :=
  if_neg (Nat.not_lt.mpr h)

/-- A reserved register, or a bignum word that does not exist (10_state R29). -/
def ReadsZero (r : Reg) : Prop :=
  r = .reserved ∨ ∃ j : Fin 256, Config.bnWords ≤ j.val ∧
    (r = .bna j ∨ r = .bnb j ∨ r = .bnm j ∨ r = .bnr j)

/-- No register that reads zero is an output register, not even while BUSY. -/
theorem isOutput_of_readsZero {r : Reg} (h : ReadsZero r) : r.isOutput = false := by
  obtain rfl | ⟨j, hj, rfl | rfl | rfl | rfl⟩ := h
  case inr.inr.inr.inr => exact decide_eq_false (Nat.not_lt.mpr hj)
  all_goals rfl

theorem regValue_of_readsZero {r : Reg} (h : ReadsZero r) (s : State) : regValue r s = 0#32 := by
  obtain rfl | ⟨j, hj, rfl | rfl | rfl | rfl⟩ := h
  · rfl
  all_goals exact bnWord_absent _ hj

/-- Settles O9: a register that reads zero is never a free draw. -/
theorem reservedReadsZeroAndWritesAreIgnored :
    Obligations.ReservedReadsZeroAndWritesAreIgnored := by
  refine ⟨fun s off ha hz => ⟨_, transfer_read off s ha, ?_, rfl⟩,
    fun s off v ha hr => transfer_write_ignored v s ha hr⟩
  rw [busRead_prdata, readData_eq off s (readIsFree_input off s (isOutput_of_readsZero hz)),
    regValue_of_readsZero hz]

theorem busRead_value {off : Offset} {s : State} (h : readIsFree off s = false) :
    (busRead off s).prdata = regValue (regAt off) s ∧ (busRead off s).draws = s.draws := by
  simp [readData_eq off s h, h]

theorem busRead_free {off : Offset} {s : State} (h : readIsFree off s = true) :
    (busRead off s).prdata = Config.busyRead s.draws off (contents s) ∧
      (busRead off s).draws = s.draws + 1 := by
  simp [readData, h]

/-- Settles O14: a read is a free draw exactly of an output register while BUSY. -/
theorem readGivesTheRegistersValue : Obligations.ReadGivesTheRegistersValue := by
  refine ⟨fun s j => by rw [regAt_key]; rfl, fun s => ⟨rfl, rfl, rfl, rfl⟩, fun s off ha =>
    ⟨_, transfer_read off s ha, rfl, rfl, fun h => busRead_value ?_,
      fun hbusy hout => busRead_free ?_⟩⟩
  · exact h.elim (readIsFree_idle off s) (readIsFree_input off s)
  · simp [readIsFree, hbusy, hout]

/-! ### A group and its eight words (10_state R31) -/

/-- A slice that starts above word `j` joins with that word. -/
theorem append_wordOf {w n : Nat} (v : BitVec w) (j : Nat) :
    v.extractLsb' (32 * (j + 1)) n ++ wordOf v j = v.extractLsb' (32 * j) (n + 32) :=
  BitVec.extractLsb'_append_extractLsb'_eq_extractLsb' (Nat.mul_succ 32 j)

theorem wide_eq_words (v : Wide) : v = wordOf v 7 ++ wordOf v 6 ++ wordOf v 5 ++ wordOf v 4 ++
    wordOf v 3 ++ wordOf v 2 ++ wordOf v 1 ++ wordOf v 0 := by
  have htop : wordOf v 7 = v.extractLsb' (32 * (6 + 1)) 32 := rfl
  rw [htop, append_wordOf v 6, append_wordOf v 5, append_wordOf v 4, append_wordOf v 3,
    append_wordOf v 2, append_wordOf v 1, append_wordOf v 0]
  exact BitVec.extractLsb'_eq_self.symm

/-- The little-endian word of four bytes: each byte joins to the slice above it. -/
theorem wordOf_eq_le32 (v : Wide) (j : Nat) :
    wordOf v j = le32 (byteOf v (4 * j)) (byteOf v (4 * j + 1)) (byteOf v (4 * j + 2))
      (byteOf v (4 * j + 3)) := by
  unfold le32 byteOf wordOf
  rw [BitVec.extractLsb'_append_extractLsb'_eq_extractLsb' (by omega),
    BitVec.extractLsb'_append_extractLsb'_eq_extractLsb' (by omega),
    BitVec.extractLsb'_append_extractLsb'_eq_extractLsb' (by omega), ← Nat.mul_assoc]

/-- The offsets of a row, as a sum of offsets. -/
theorem ofNat_row (b n : Nat) : BitVec.ofNat 13 b + BitVec.ofNat 13 n = BitVec.ofNat 13 (b + n) :=
  (BitVec.ofNat_add b n).symm

/-- Settles O10: adjacent slices join, word by word and byte by byte. -/
theorem groupIsItsEightWords : Obligations.GroupIsItsEightWords := by
  refine ⟨wide_eq_words, fun v j _ => ⟨rfl, wordOf_eq_le32 v j⟩, fun s j => ?_⟩
  simp only [ofNat_row, regAt_hm, regAt_hh, regAt_hs, regAt_hl]
  exact ⟨rfl, rfl, rfl, rfl⟩

/-! ### Writing a group word by word (10_state R35, 20_memory R64) -/

/-- Replacing words of a value by those of `v`: each bit is that of `v` in the words replaced so
far. -/
theorem getLsbD_foldl_setWord (v : Wide) (l : List (Fin 8)) (w : Wide) {i : Nat} (hi : i < 256) :
    (l.foldl (fun u j => setWord u j.val (wordOf v j.val)) w).getLsbD i =
      if (∃ j ∈ l, j.val = i / 32) then v.getLsbD i else w.getLsbD i := by
  induction l generalizing w with
  | nil => simp
  | cons j l ih =>
    rw [List.foldl_cons, ih, getLsbD_setWord _ _ _ _ hi, getLsbD_wordOf]
    by_cases hj : j.val = i / 32
    · have hin : 32 * j.val ≤ i ∧ i < 32 * j.val + 32 := by omega
      have hlt : i - 32 * j.val < 32 := by omega
      have hbit : 32 * j.val + (i - 32 * j.val) = i := by omega
      rw [if_pos hin, hbit, decide_eq_true hlt, Bool.true_and, ite_self,
        if_pos ⟨j, List.mem_cons_self, hj⟩]
    · have hout : ¬ (32 * j.val ≤ i ∧ i < 32 * j.val + 32) := by omega
      simp [hj, hout]

theorem foldl_setWord_finRange (v w : Wide) :
    (List.finRange 8).foldl (fun u j => setWord u j.val (wordOf v j.val)) w = v := by
  apply BitVec.eq_of_getLsbD_eq
  intro i hi
  rw [getLsbD_foldl_setWord v _ w hi, if_pos ⟨⟨i / 32, by omega⟩, List.mem_finRange _, rfl⟩]

/-- `get` and `put` read and replace the register group of the eight words `reg`, and nothing
else. -/
structure IsGroup (get : State → Wide) (put : Wide → State → State) (reg : Fin 8 → Reg) : Prop where
  get_put : ∀ x s, get (put x s) = x
  put_put : ∀ x y s, put y (put x s) = put y s
  put_get : ∀ s, put (get s) s = s
  busy_put : ∀ x s, (put x s).busy = s.busy
  isData : ∀ j, (reg j).isData = true
  write_word : ∀ j x s, writeData (reg j) x s = put (setWord (get s) j.val x) s

theorem isGroup_hm : IsGroup (·.hm) (fun x s => { s with hm := x }) .hm :=
  ⟨fun _ _ => rfl, fun _ _ _ => rfl, fun _ => rfl, fun _ _ => rfl, fun _ => rfl, fun _ _ _ => rfl⟩

theorem isGroup_hh : IsGroup (·.hh) (fun x s => { s with hh := x }) .hh :=
  ⟨fun _ _ => rfl, fun _ _ _ => rfl, fun _ => rfl, fun _ _ => rfl, fun _ => rfl, fun _ _ _ => rfl⟩

theorem isGroup_hs : IsGroup (·.hs) (fun x s => { s with hs := x }) .hs :=
  ⟨fun _ _ => rfl, fun _ _ _ => rfl, fun _ => rfl, fun _ _ => rfl, fun _ => rfl, fun _ _ _ => rfl⟩

theorem isGroup_hl : IsGroup (·.hl) (fun x s => { s with hl := x }) .hl :=
  ⟨fun _ _ => rfl, fun _ _ _ => rfl, fun _ => rfl, fun _ _ => rfl, fun _ => rfl, fun _ _ _ => rfl⟩

section Group

variable {get : State → Wide} {put : Wide → State → State} {reg : Fin 8 → Reg}
  {off : Fin 8 → Offset}

/-- On an idle block a write to one word of a group replaces that word. -/
theorem busWrite_group (g : IsGroup get put reg) (hoff : ∀ j, regAt (off j) = reg j) (j : Fin 8)
    (x : Word) {s : State} (hb : s.busy = false) :
    busWrite (off j) x s = put (setWord (get s) j.val x) s := by
  rw [busWrite, hoff, writeReg_data _ x s (g.isData j), hb, ← g.write_word]
  rfl

/-- Writes to the words of a group act on the group's value alone. -/
theorem foldl_busWrite_group (g : IsGroup get put reg) (hoff : ∀ j, regAt (off j) = reg j)
    (f : Fin 8 → Word) (l : List (Fin 8)) {s : State} (hb : s.busy = false) :
    l.foldl (fun u j => busWrite (off j) (f j) u) s =
      put (l.foldl (fun x j => setWord x j.val (f j)) (get s)) s := by
  induction l generalizing s with
  | nil => exact (g.put_get s).symm
  | cons j l ih =>
    rw [List.foldl_cons, busWrite_group g hoff j _ hb, ih ((g.busy_put _ s).trans hb), g.get_put,
      g.put_put, List.foldl_cons]

/-- The eight words of `v` make the group `v`, whatever it held. -/
theorem write_group (g : IsGroup get put reg) (hoff : ∀ j, regAt (off j) = reg j) (v : Wide)
    {s : State} (hb : s.busy = false) :
    (List.finRange 8).foldl (fun u j => busWrite (off j) (wordOf v j.val) u) s = put v s := by
  rw [foldl_busWrite_group g hoff _ _ hb, foldl_setWord_finRange]

end Group

/-- Settles O11: `write_group` at each of the four groups. -/
theorem eightWordWritesRestoreAGroup : Obligations.EightWordWritesRestoreAGroup := fun _ v hb =>
  ⟨write_group isGroup_hm regAt_hm v hb, write_group isGroup_hh regAt_hh v hb,
    write_group isGroup_hs regAt_hs v hb, write_group isGroup_hl regAt_hl v hb⟩

/-! ### A bignum register and its words (10_state R36, R37) -/

theorem toNat_wordOf {w : Nat} (v : BitVec w) (j : Nat) :
    (wordOf v j).toNat = v.toNat / 2 ^ (32 * j) % 2 ^ 32 := by
  rw [wordOf, BitVec.extractLsb'_toNat, Nat.shiftRight_eq_div_pow]

/-- The lowest `n` words of a value, as a number. -/
theorem sum_words_eq_mod {w : Nat} (v : BitVec w) (n : Nat) :
    ∑ j ∈ Finset.range n, (wordOf v j).toNat * 2 ^ (32 * j) = v.toNat % 2 ^ (32 * n) := by
  induction n with
  | zero => simp [Nat.mod_one]
  | succ n ih =>
    rw [Finset.sum_range_succ, ih, toNat_wordOf, Nat.mul_succ, pow_add, Nat.mod_mul,
      Nat.mul_comm (2 ^ (32 * n))]

/-- Settles O12: the lowest W/32 words are all of a W-bit value. -/
theorem bignumIsTheSumOfItsWords : Obligations.BignumIsTheSumOfItsWords := by
  refine ⟨fun r => ?_, fun r j => ⟨fun h => if_pos h, bnWord_absent r⟩, fun s j => ?_⟩
  · rw [sum_words_eq_mod]
    exact (Nat.mod_eq_of_lt r.isLt).symm
  · simp only [regAt_bna, regAt_bnb, regAt_bnm, regAt_bnr]
    exact ⟨rfl, rfl, rfl, rfl⟩

end Sys2Proof.Proofs

/-! PROOFS. The family of 20_memory: which transfers are accepted, what a write stores and leaves
alone, reads and writes made twice, and a busy block; and the statements that rest on them. -/

namespace Sys2Proof.Proofs

open Sys2Proof Sys2Proof.Machine Sys2Proof.Laws

/-! ### Accepted and refused transfers (20_memory R61, R75; 60_exceptions R187) -/

theorem pslverr_iff (t : Transfer) : pslverr t = true ↔ accepted t = false := by
  simp [pslverr]

theorem step_host {s : State} {tr : Transfer} {rest : List Event}
    (hs : s.schedule = .host tr :: rest) : step s = transfer tr { s with schedule := rest } :=
  step_cons hs

/-- Settles O13: a scheduled transfer is the step, and only its acceptance decides what it
answers. -/
theorem transfersAreAcceptedOrRefused : Obligations.TransfersAreAcceptedOrRefused := by
  refine ⟨accepted_iff, pslverr_iff, fun s tr rest hs ha => ?_, fun s tr rest hs ha => ?_⟩
  · obtain ⟨t, ht⟩ := step_harmless_next hs (.inr ⟨tr, rfl, ha⟩)
    exact ⟨t, ht, step_cons_schedule hs ht⟩
  · rw [step_host hs, transfer_refused tr _ ha]

/-! ### A command in progress (20_memory R65, R67) -/

/-- A step of a busy block that leaves it busy changes no data register and nothing of the
command's status. -/
theorem step_busy_keeps {s t : State} (h : step s = .next t) (hs : s.busy = true)
    (ht : t.busy = true) : SameData s t ∧ SameCommandStatus s t := by
  cases step_effect h with
  | keep hst => exact ⟨sameData_of_sameBlock hst, sameCommandStatus_of_sameBlock hst⟩
  | complete u _ _ hc =>
    obtain ⟨hidle, -⟩ := completeStep_frame hc
    simp [ht] at hidle
  | reset rest _ hst =>
    have hidle : t.busy = false := congrArg ArchState.busy hst
    simp [ht] at hidle
  | write tr rest _ _ _ hw =>
    subst hw
    exact writeReg_busy _ _ (s := { s with schedule := rest }) hs

/-- Settles O28: `step_busy_keeps`, part by part. -/
theorem dataIsStableWhileBusy : Obligations.DataIsStableWhileBusy := by
  intro s t h hs ht
  obtain ⟨hdata, -, hdone, herr, hcode, hresult, hlcmd⟩ := step_busy_keeps h hs ht
  exact ⟨hdata, hlcmd, hdone, herr, hcode, hresult⟩

/-! ### Writes by register (20_memory R64, R65) -/

/-- A write transfer acts on the register that the map finds at its offset. -/
theorem transfer_write_regAt {off : Offset} {r : Reg} (v : Word) (s : State)
    (ha : off.toNat % 4 = 0) (hr : regAt off = r) :
    transfer (.writeWord off v) s = .next (writeReg r v s) := by
  rw [transfer_writeWord off v s ha, busWrite, hr]

/-- While BUSY a write to CMD or a data register only sets OVERRUN. -/
theorem writeReg_busy_overrun {r : Reg} (v : Word) {s : State} (hb : s.busy = true)
    (hr : r = .cmd ∨ r.isData = true) : writeReg r v s = setOverrun s := by
  obtain rfl | hd := hr
  · rw [writeReg_cmd, if_pos hb]
  · rw [writeReg_data r v s hd, if_pos hb]

/-- On an idle block a write to a data register stores the value. -/
theorem writeReg_idle_data {r : Reg} (v : Word) {s : State} (hb : s.busy = false)
    (hd : r.isData = true) : writeReg r v s = writeData r v s := by
  simp [writeReg_data r v s hd, hb]

/-- On an idle block a write to CMD is an acceptance (60_exceptions R185). -/
theorem writeReg_idle_cmd (v : Word) {s : State} (hb : s.busy = false) :
    writeReg .cmd v s = accept v s := by
  simp [hb]

/-- Settles O17: the rule of each register class; only CMD and the data registers ask whether the
block is busy. -/
theorem busyWriteIsDroppedWithOverrun : Obligations.BusyWriteIsDroppedWithOverrun := by
  intro s off v ha hb
  refine ⟨fun hr => ?_, transfer_write_ignored v s ha, transfer_write_regAt v s ha,
    transfer_write_regAt v s ha, transfer_write_regAt v s ha⟩
  rw [transfer_write_regAt v s ha rfl, writeReg_busy_overrun v hb hr, setOverrun]

/-! ### What a read gives after a write of a data register (20_memory R64) -/

/-- The register just written reads back. -/
theorem regValue_writeData_same {r : Reg} (v : Word) (s : State) (hd : r.isData = true) :
    regValue r (writeData r v s) = v := by
  cases r with
  | key j => exact Vector.getElem_set_self j.isLt
  | blkLo | blkHi => rfl
  | hm j | hh j | hs j | hl j => exact wordOf_setWord_same _ j.val v (by omega)
  | bna j | bnb j | bnm j => exact bnWord_bnSetWord_same _ j v (of_decide_eq_true hd)
  | _ => simp [Reg.isData] at hd

/-- Different words of one row have different indices. -/
theorem row_ne {n : Nat} (row : Fin n → Reg) {i j : Fin n} (h : row j ≠ row i) : i.val ≠ j.val :=
  Fin.val_ne_of_ne (ne_of_apply_ne row h.symm)

/-- Every other register reads as before: another word of the same group or window, or a field that
the write does not touch. -/
theorem regValue_writeData_other {r q : Reg} (v : Word) (s : State) (hne : q ≠ r) :
    regValue q (writeData r v s) = regValue q s := by
  cases r with
  | key i =>
    cases q with
    | key j => exact Vector.getElem_set_ne i.isLt j.isLt (row_ne Reg.key hne)
    | _ => rfl
  | blkLo =>
    cases q with
    | blkLo => exact absurd rfl hne
    | _ => rfl
  | blkHi =>
    cases q with
    | blkHi => exact absurd rfl hne
    | _ => rfl
  | hm i =>
    cases q with
    | hm j => exact wordOf_setWord_other s.hm _ _ v (row_ne Reg.hm hne) (by omega)
    | _ => rfl
  | hh i =>
    cases q with
    | hh j => exact wordOf_setWord_other s.hh _ _ v (row_ne Reg.hh hne) (by omega)
    | _ => rfl
  | hs i =>
    cases q with
    | hs j => exact wordOf_setWord_other s.hs _ _ v (row_ne Reg.hs hne) (by omega)
    | _ => rfl
  | hl i =>
    cases q with
    | hl j => exact wordOf_setWord_other s.hl _ _ v (row_ne Reg.hl hne) (by omega)
    | _ => rfl
  | bna i =>
    cases q with
    | bna j => exact bnWord_bnSetWord_other s.bna i j v (ne_of_apply_ne Reg.bna hne.symm)
    | _ => rfl
  | bnb i =>
    cases q with
    | bnb j => exact bnWord_bnSetWord_other s.bnb i j v (ne_of_apply_ne Reg.bnb hne.symm)
    | _ => rfl
  | bnm i =>
    cases q with
    | bnm j => exact bnWord_bnSetWord_other s.bnm i j v (ne_of_apply_ne Reg.bnm hne.symm)
    | _ => rfl
  | _ => rfl

/-- No two aligned offsets share a register, reserved space aside (10_state R22). -/
theorem offset_eq_of_regAt_eq {off off' : Offset} (ha : off.toNat % 4 = 0)
    (ha' : off'.toNat % 4 = 0) (hne : regAt off ≠ .reserved) (h : regAt off' = regAt off) :
    off' = off := by
  obtain ⟨-, hres⟩ | ⟨-, hoff⟩ := regAt_cases ha
  · exact absurd hres hne
  obtain ⟨-, hres⟩ | ⟨-, hoff'⟩ := regAt_cases ha'
  · exact absurd (h.symm.trans hres) hne
  · exact Option.some.inj (hoff'.symm.trans ((congrArg Reg.offset? h).trans hoff))

theorem ne_reserved_of_isData {r : Reg} (h : r.isData = true) : r ≠ .reserved := by
  rintro rfl
  simp [Reg.isData] at h

/-- On an idle block a write to a data register is read back at its offset, and at no other. -/
theorem readData_writeData {off : Offset} (v : Word) {s : State} (ha : off.toNat % 4 = 0)
    (hb : s.busy = false) (hd : (regAt off).isData = true) :
    readData off (writeData (regAt off) v s) = v ∧
      ∀ off' : Offset, off'.toNat % 4 = 0 → off' ≠ off →
        readData off' (writeData (regAt off) v s) = readData off' s := by
  have hidle : (writeData (regAt off) v s).busy = false := (writeData_busy _ v s).trans hb
  refine ⟨?_, fun off' ha' hne => ?_⟩
  · rw [readData_idle off _ hidle, regValue_writeData_same v s hd]
  · have hreg : regAt off' ≠ regAt off := fun h =>
      hne (offset_eq_of_regAt_eq ha ha' (ne_reserved_of_isData hd) h)
    rw [readData_idle off' _ hidle, readData_idle off' s hb, regValue_writeData_other v s hreg]

/-- Settles O16: the rule of each register class, and what a read gives after a write. -/
theorem idleWriteStoresOrActs : Obligations.IdleWriteStoresOrActs := by
  intro s off v ha hb
  refine ⟨fun hd => ?_, transfer_write_ignored v s ha, transfer_write_regAt v s ha,
    transfer_write_regAt v s ha, transfer_write_regAt v s ha, fun hr => ?_⟩
  · obtain ⟨hsame, hother⟩ := readData_writeData v ha hb hd
    refine ⟨writeData (regAt off) v s, ?_, hsame, hother, writeData_lcmd _ v s⟩
    rw [transfer_write_regAt v s ha rfl, writeReg_idle_data v hb hd]
  · rw [transfer_write_regAt v s ha hr, writeReg_idle_cmd v hb]

/-! ### Reads and writes made twice (20_memory R66) -/

theorem regValue_busRead (r : Reg) (off : Offset) (s : State) :
    regValue r (busRead off s) = regValue r s := by
  cases r <;> rfl

theorem readIsFree_busRead (off off' : Offset) (s : State) :
    readIsFree off (busRead off' s) = readIsFree off s := rfl

/-- A read that is no free draw repeats after any other read. -/
theorem readData_busRead {off : Offset} {s : State} (h : readIsFree off s = false)
    (off' : Offset) : readData off (busRead off' s) = readData off s := by
  rw [readData_eq off s h, readData_eq off _ ((readIsFree_busRead off off' s).trans h),
    regValue_busRead]

/-- Of two writes of one word the second counts. -/
theorem setWord_setWord {w : Nat} (v : BitVec w) (j : Nat) (x y : Word) :
    setWord (setWord v j x) j y = setWord v j y := by
  apply BitVec.eq_of_getLsbD_eq
  intro i hi
  simp only [getLsbD_setWord _ _ _ _ hi]
  split <;> rfl

theorem bnSetWord_bnSetWord (r : BnInt) (j : Fin 256) (x y : Word) :
    bnSetWord (bnSetWord r j x) j y = bnSetWord r j y := by
  unfold bnSetWord
  split
  · exact setWord_setWord r j.val x y
  · rfl

theorem writeData_writeData (r : Reg) (x y : Word) (s : State) :
    writeData r y (writeData r x s) = writeData r y s := by
  cases r with
  | key j => simp only [writeData, Vector.set_set]
  | hm j | hh j | hs j | hl j => simp only [writeData, setWord_setWord]
  | bna j | bnb j | bnm j => simp only [writeData, bnSetWord_bnSetWord]
  | _ => rfl

/-- A write other than an acceptance is idempotent. -/
theorem writeReg_writeReg {r : Reg} (v : Word) (s : State) (hr : r ≠ .cmd) :
    writeReg r v (writeReg r v s) = writeReg r v s := by
  obtain h | ⟨rfl, hv, h⟩ | ⟨rfl, h⟩ | ⟨rfl, hv, h⟩ | ⟨hb, hreg, h⟩ | ⟨-, hcmd, -⟩ | ⟨hb, hd, h⟩ :=
    writeReg_cases r v s
  case inr.inr.inr.inr.inr.inl => exact absurd hcmd hr
  all_goals rw [h]
  · exact h
  · rw [writeReg_status, if_pos hv]
    rfl
  · rfl
  · rw [writeReg_irqPend, if_pos hv]
    rfl
  · rw [writeReg_busy_overrun v (s := setOverrun s) hb hreg]
    rfl
  · rw [writeReg_idle_data v ((writeData_busy r v s).trans hb) hd, writeData_writeData]

/-- A write to CMD of an idle block starts the command, and a second one only breaks the busy
rule. -/
theorem writeReg_cmd_twice (v : Word) {s : State} (hb : s.busy = false) :
    writeReg .cmd v (writeReg .cmd v s) = setOverrun (accept v s) := by
  rw [writeReg_idle_cmd v hb, writeReg_busy_overrun v (accept_busy s v) (.inl rfl)]

/-- Settles O15: reads touch no field that a register's value rests on, and `writeReg_writeReg` is
the rule of the writes. The two writes to CMD differ in OVERRUN. -/
theorem readsAndWritesRepeat : Obligations.ReadsAndWritesRepeat := by
  refine ⟨fun _ _ => rfl, fun _ _ => readData_busRead, fun s off v _ => writeReg_writeReg v s,
    fun s v hb => ?_⟩
  have hfirst : busWrite 0x0008#13 v s = accept v s := writeReg_idle_cmd v hb
  have hsecond : busWrite 0x0008#13 v (busWrite 0x0008#13 v s) = setOverrun (accept v s) :=
    writeReg_cmd_twice v hb
  rw [hsecond, hfirst]
  refine ⟨rfl, rfl, fun ho heq => ?_⟩
  have hover : true = s.overrun := congrArg (fun t => t.overrun) heq
  simp [ho] at hover

end Sys2Proof.Proofs

/-! PROOFS. The family of 30_encoding: the three fields of a command word, the words that decode,
the rows of the opcode table, and the implicit operands of the commands; and the statements that
rest on them. -/

namespace Sys2Proof.Proofs

open Sys2Proof Sys2Proof.Machine Sys2Proof.Laws

/-! ### The fields of a command word (30_encoding R81) -/

/-- RSV, NB and OP are the whole word, in this order. -/
theorem append_fields (w : Word) : (rsvField w ++ nbField w) ++ opField w = w := by
  have hhigh : rsvField w ++ nbField w = w.extractLsb' 8 24 :=
    BitVec.extractLsb'_append_extractLsb'_eq_extractLsb' rfl
  calc (rsvField w ++ nbField w) ++ opField w
      = w.extractLsb' 8 24 ++ w.extractLsb' 0 8 := congrArg (· ++ opField w) hhigh
    _ = w.extractLsb' 0 32 := BitVec.extractLsb'_append_extractLsb'_eq_extractLsb' rfl
    _ = w := BitVec.extractLsb'_eq_self

/-- Two words are equal when their three fields are. -/
theorem word_eq_iff_fields {v w : Word} :
    v = w ↔ rsvField v = rsvField w ∧ nbField v = nbField w ∧ opField v = opField w := by
  constructor
  · rintro rfl
    exact ⟨rfl, rfl, rfl⟩
  · rintro ⟨hrsv, hnb, hop⟩
    rw [← append_fields v, ← append_fields w, hrsv, hnb, hop]

@[simp] theorem rsvField_and (v w : Word) : rsvField (v &&& w) = rsvField v &&& rsvField w :=
  BitVec.extractLsb'_and

@[simp] theorem nbField_and (v w : Word) : nbField (v &&& w) = nbField v &&& nbField w :=
  BitVec.extractLsb'_and

@[simp] theorem opField_and (v w : Word) : opField (v &&& w) = opField v &&& opField w :=
  BitVec.extractLsb'_and

@[simp] theorem rsvField_encode (i : Instr) : rsvField (encode i) = 0#18 := by
  have hhigh : rsvField (encode i) = (0#18 ++ i.nb).extractLsb' 6 18 :=
    BitVec.extractLsb'_append_eq_of_le (by decide)
  rw [hhigh, BitVec.extractLsb'_append_eq_left]

@[simp] theorem nbField_encode (i : Instr) : nbField (encode i) = i.nb := by
  have hhigh : nbField (encode i) = (0#18 ++ i.nb).extractLsb' 0 6 :=
    BitVec.extractLsb'_append_eq_of_le (by decide)
  rw [hhigh, BitVec.extractLsb'_append_eq_right]

@[simp] theorem opField_encode (i : Instr) : opField (encode i) = i.op :=
  BitVec.extractLsb'_append_eq_right

theorem encode_eq_iff {i : Instr} {w : Word} :
    encode i = w ↔ rsvField w = 0#18 ∧ nbField w = i.nb ∧ opField w = i.op := by
  simp [word_eq_iff_fields, eq_comm]

/-! ### The opcode map (30_encoding R83) -/

/-- The nine values of OP that the opcode map lists. -/
def opcodes : List (BitVec 8) :=
  [0x01#8, 0x10#8, 0x11#8, 0x12#8, 0x13#8, 0x20#8, 0x21#8, 0x22#8, 0x23#8]

theorem opcodeMap_op_nb (i : Instr) : opcodeMap i.op i.nb = some i := by
  cases i <;> rfl

/-- The map gives the command whose OP it was asked for, with NB as HASH_FINAL's argument. -/
theorem opcodeMap_fields {op : BitVec 8} {nb : BitVec 6} {i : Instr}
    (h : opcodeMap op nb = some i) : i.op = op ∧ i.nb = if op = 0x13#8 then nb else 0#6 := by
  unfold opcodeMap at h
  split_ifs at h <;> cases h <;> subst op <;> exact ⟨rfl, rfl⟩

theorem exists_opcodeMap_iff {op : BitVec 8} {nb : BitVec 6} :
    (∃ i, opcodeMap op nb = some i) ↔ op ∈ opcodes := by
  rw [← Option.isSome_iff_exists]
  unfold opcodeMap opcodes
  split_ifs <;> simp_all

/-! ### The words that decode (30_encoding R84) -/

/-- The test of R84 on the byte count: at most 32 on HASH_FINAL's opcode, 0 on another one. -/
def ByteCountLegal (op : BitVec 8) (nb : BitVec 6) : Prop :=
  if op = 0x13#8 then nb.toNat ≤ 32 else nb = 0#6

theorem byteCountLegal_iff_wellFormed (i : Instr) :
    ByteCountLegal i.op i.nb ↔ i.wellFormed = true := by
  cases i with
  | hashFinal nb => simp [ByteCountLegal, Instr.op, Instr.nb, Instr.wellFormed]
  | _ => exact ⟨fun _ => rfl, fun _ => rfl⟩

theorem not_byteCountLegal_iff {op : BitVec 8} {nb : BitVec 6} :
    ¬ ByteCountLegal op nb ↔ (op = 0x13#8 ∧ 32 < nb.toNat) ∨ (op ≠ 0x13#8 ∧ nb.toNat ≠ 0) := by
  unfold ByteCountLegal
  split
  · next h => simp [h]
  · next h => simp [h, BitVec.toNat_eq]

/-- A word decodes exactly when it passes the tests of R84. -/
theorem decode_eq_ok_iff_tests {w : Word} {i : Instr} :
    decode w = .ok i ↔ rsvField w = 0#18 ∧ opcodeMap (opField w) (nbField w) = some i ∧
      ByteCountLegal (opField w) (nbField w) := by
  refine ⟨decode_ok_spec, ?_⟩
  rintro ⟨hrsv, hmap, hnb⟩
  unfold decode
  rw [if_neg (not_not.mpr hrsv), hmap]
  unfold ByteCountLegal at hnb
  split at hnb
  · next hop => simp only [if_pos hop, if_neg (Nat.not_lt.mpr hnb)]
  · next hop => simp only [if_neg hop, if_neg (not_not.mpr hnb)]

theorem exists_decode_ok_iff {w : Word} :
    (∃ i, decode w = .ok i) ↔
      rsvField w = 0#18 ∧ opField w ∈ opcodes ∧ ByteCountLegal (opField w) (nbField w) := by
  simp only [decode_eq_ok_iff_tests, exists_and_left, exists_and_right, exists_opcodeMap_iff]

/-- The command of a legal word has the word's OP and NB. -/
theorem decode_ok_fields {w : Word} {i : Instr} (h : decode w = .ok i) :
    i.op = opField w ∧ i.nb = nbField w := by
  obtain ⟨-, hmap, hnb⟩ := decode_eq_ok_iff_tests.mp h
  obtain ⟨hop, hnbMap⟩ := opcodeMap_fields hmap
  refine ⟨hop, hnbMap.trans ?_⟩
  unfold ByteCountLegal at hnb
  split at hnb
  · next h13 => exact if_pos h13
  · next h13 => exact (if_neg h13).trans hnb.symm

/-- Decoding and encoding are inverse to each other on the well-formed commands. -/
theorem decode_eq_ok_iff_encode {w : Word} {i : Instr} :
    decode w = .ok i ↔ i.wellFormed = true ∧ encode i = w := by
  constructor
  · intro h
    obtain ⟨hrsv, -, -⟩ := decode_eq_ok_iff_tests.mp h
    obtain ⟨hop, hnb⟩ := decode_ok_fields h
    exact ⟨decode_ok_wellFormed h, encode_eq_iff.mpr ⟨hrsv, hnb.symm, hop.symm⟩⟩
  · rintro ⟨hwf, henc⟩
    obtain ⟨hrsv, hnb, hop⟩ := encode_eq_iff.mp henc
    rw [decode_eq_ok_iff_tests, hop, hnb]
    exact ⟨hrsv, opcodeMap_op_nb i, (byteCountLegal_iff_wellFormed i).mpr hwf⟩

/-- Settles O1: the encoded word carries OP and NB in their fields and passes every test of R84. -/
theorem decodeOfEncodeIsIdentity : Obligations.DecodeOfEncodeIsIdentity :=
  fun _ hwf => decode_eq_ok_iff_encode.mpr ⟨hwf, rfl⟩

/-- Settles O2: RSV is 0, and OP and NB are the command's, so its encoding has the word's three
fields. -/
theorem legalWordIsItsCommandsEncoding : Obligations.LegalWordIsItsCommandsEncoding :=
  fun _ _ => decode_eq_ok_iff_encode.mp

/-! ### Illegal words (30_encoding R84, R85) -/

theorem exists_decode_error_iff_not {w : Word} :
    (∃ e, decode w = .error e) ↔ ¬ ∃ i, decode w = .ok i := by
  cases decode w <;> simp

/-- Which tests of R84 an Illegal word fails. -/
theorem exists_decode_error_iff {w : Word} :
    (∃ e, decode w = .error e) ↔
      rsvField w ≠ 0#18 ∨ opField w ∉ opcodes ∨
      (opField w = 0x13#8 ∧ 32 < (nbField w).toNat) ∨
      (opField w ≠ 0x13#8 ∧ (nbField w).toNat ≠ 0) := by
  rw [exists_decode_error_iff_not, exists_decode_ok_iff, not_and_or, not_and_or,
    not_byteCountLegal_iff]

theorem completeStep_error {s : State} {e : DecodeError} (h : decode s.lcmd = .error e) :
    completeStep s = .next (finishError .illegalCmd s) := by
  simp [completeStep, h]

/-! ### The rows of the opcode table (30_encoding R84) -/

/-- What the rows of the table have in common: the mask covers RSV and OP, and it covers NB but on
HASH_FINAL's row; the value has RSV and NB 0 and an opcode of the map. -/
theorem opcodeTable_fields : ∀ r ∈ opcodeTable,
    rsvField r.mask = BitVec.allOnes 18 ∧ opField r.mask = BitVec.allOnes 8 ∧
    nbField r.mask = (if opField r.value = 0x13#8 then 0#6 else BitVec.allOnes 6) ∧
    rsvField r.value = 0#18 ∧ nbField r.value = 0#6 ∧ opField r.value ∈ opcodes ∧
    (r.mnemonic = "HASH_FINAL" ↔ opField r.value = 0x13#8) := by
  decide

/-- The rows differ in OP. -/
theorem opcodeTable_op_injective : ∀ r ∈ opcodeTable, ∀ r' ∈ opcodeTable,
    opField r.value = opField r'.value → r = r' := by
  decide

/-- Each command has its row, with its OP and mnemonic. -/
theorem exists_opcodeRow (i : Instr) :
    ∃ r ∈ opcodeTable, opField r.value = i.op ∧ r.mnemonic = i.mnemonic := by
  cases i <;> simp only [Instr.op, Instr.mnemonic] <;> decide

/-- A row claims the words with RSV 0, the row's OP and a byte count that this OP admits. -/
theorem claims_iff {r : OpcodeRow} (hr : r ∈ opcodeTable) (w : Word) :
    r.claims w = true ↔ rsvField w = 0#18 ∧ opField w = opField r.value ∧
      ByteCountLegal (opField r.value) (nbField w) := by
  obtain ⟨hrsvMask, hopMask, hnbMask, hrsv, hnb, -, hname⟩ := opcodeTable_fields r hr
  have hmask : w &&& r.mask = r.value ↔ rsvField w = 0#18 ∧
      nbField w &&& nbField r.mask = 0#6 ∧ opField w = opField r.value := by
    simp only [word_eq_iff_fields, rsvField_and, nbField_and, opField_and, hrsvMask, hopMask, hrsv,
      hnb, BitVec.and_allOnes]
  unfold OpcodeRow.claims ByteCountLegal
  rw [Bool.and_eq_true, decide_eq_true_iff, hmask, hnbMask]
  by_cases h13 : opField r.value = 0x13#8
  · simp [h13, hname.mpr h13, and_assoc]
  · have hne : r.mnemonic ≠ "HASH_FINAL" := mt hname.mp h13
    rw [if_neg h13, if_neg h13, BitVec.and_allOnes]
    simp [hne, and_comm]

/-- Settles O4: a row that claims a word has the word's OP, and no two rows share an OP. -/
theorem opcodeRowsDoNotOverlap : Obligations.OpcodeRowsDoNotOverlap := by
  intro w r hr r' hr' hw hw'
  obtain ⟨-, hop, -⟩ := (claims_iff hr w).mp hw
  obtain ⟨-, hop', -⟩ := (claims_iff hr' w).mp hw'
  exact opcodeTable_op_injective r hr r' hr' (hop.symm.trans hop')

/-- A legal word is claimed by its command's row. -/
theorem exists_claims_of_decode_ok {w : Word} {i : Instr} (h : decode w = .ok i) :
    ∃ r ∈ opcodeTable, r.claims w = true ∧ r.mnemonic = i.mnemonic := by
  obtain ⟨hrsv, -, hnb⟩ := decode_eq_ok_iff_tests.mp h
  obtain ⟨hop, -⟩ := decode_ok_fields h
  obtain ⟨r, hr, hrop, hname⟩ := exists_opcodeRow i
  have hvalue : opField r.value = opField w := hrop.trans hop
  exact ⟨r, hr, (claims_iff hr w).mpr ⟨hrsv, hvalue.symm, by rwa [hvalue]⟩, hname⟩

/-- A word that a row claims is legal. -/
theorem exists_decode_ok_of_claims {r : OpcodeRow} (hr : r ∈ opcodeTable) {w : Word}
    (h : r.claims w = true) : ∃ i, decode w = .ok i := by
  obtain ⟨hrsv, hop, hnb⟩ := (claims_iff hr w).mp h
  obtain ⟨-, -, -, -, -, hmem, -⟩ := opcodeTable_fields r hr
  rw [exists_decode_ok_iff, hop]
  exact ⟨hrsv, hmem, hnb⟩

/-- Settles O3: `decode` and the rows of the table apply the same tests to the three fields, and the
completion step of an Illegal word is `finishError`. -/
theorem decodingFollowsTheOpcodeTable : Obligations.DecodingFollowsTheOpcodeTable := by
  refine fun w => ⟨exists_decode_error_iff, fun i hi => ?_, fun e he => ⟨fun r hr => ?_, ?_⟩⟩
  · obtain ⟨hop, hnb⟩ := decode_ok_fields hi
    exact ⟨hop, hnb, exists_claims_of_decode_ok hi⟩
  · rw [← Bool.not_eq_true]
    exact fun hclaims =>
      exists_decode_error_iff_not.mp ⟨e, he⟩ (exists_decode_ok_of_claims hr hclaims)
  · rintro s rfl
    exact ⟨_, completeStep_error he, completedErr_finishError .illegalCmd s⟩

/-! ### Which registers a command reads and writes (30_encoding R86) -/

theorem keepsOthers_of_sameData (i : Instr) {s t : State} (h : SameData s t) :
    KeepsOthers i s t := by
  obtain ⟨hkey, hlo, hhi, hctLo, hctHi, hhm, hhh, hhs, hhl, hbna, hbnb, hbnm, hbnr⟩ := h
  cases i <;> simp only [KeepsOthers, SameInputs, SameCt, SameHash, and_self, *]

/-- The frame of a completion, success or error: the data registers the command does not write,
OVERRUN, DONE_IE and LCMD. -/
theorem completes_frame {i : Instr} {s t : State} (h : Completes i s t) :
    KeepsOthers i s t ∧ t.done = true ∧ t.busy = false ∧ t.doneIp = true ∧ SameRest s t := by
  obtain ⟨c, ⟨-, -, -, hdone, hbusy, hip, hrest⟩, hdata⟩ |
    ⟨r, ⟨-, -, -, hdone, hbusy, hip, hrest⟩, hkeeps, -⟩ := h
  · exact ⟨keepsOthers_of_sameData i hdata, hdone, hbusy, hip, hrest⟩
  · exact ⟨hkeeps, hdone, hbusy, hip, hrest⟩

/-- Two completions of one command with the same RESULT, ERR and ERRCODE and, on success, the same
values in the registers it writes. -/
def SameResults (i : Instr) (o o' : Host.Outcome State Fault Refusal) : Prop :=
  ∃ t t', o = .next t ∧ o' = .next t' ∧
    t'.result = t.result ∧ t'.err = t.err ∧ t'.errcode = t.errcode ∧
    (t.err = false → AgreeOnWrites i t t')

theorem agreeOnWrites_finishOk {i : Instr} {t t' : State} (r : Bool) (h : AgreeOnWrites i t t') :
    AgreeOnWrites i (finishOk r t) (finishOk r t') := by
  cases i <;> exact h

theorem sameResults_finishOk {i : Instr} {t t' : State} (r : Bool) (h : AgreeOnWrites i t t') :
    SameResults i (.next (finishOk r t)) (.next (finishOk r t')) :=
  ⟨_, _, rfl, rfl, rfl, rfl, rfl, fun _ => agreeOnWrites_finishOk r h⟩

theorem sameResults_finishError (i : Instr) (c : ErrCode) (s s' : State) :
    SameResults i (.next (finishError c s)) (.next (finishError c s')) :=
  ⟨_, _, rfl, rfl, rfl, rfl, rfl, nofun⟩

theorem sameResults_ite {i : Instr} {p : Prop} [Decidable p]
    {a a' b b' : Host.Outcome State Fault Refusal} (ha : SameResults i a a')
    (hb : SameResults i b b') : SameResults i (if p then a else b) (if p then a' else b') := by
  split
  · exact ha
  · exact hb

/-- A command's results depend on what it reads alone. -/
theorem exec_agree (i : Instr) {s s' : State} (h : AgreeOnReads i s s') :
    SameResults i (exec i s) (exec i s') := by
  cases i with
  | cipherEnc =>
    obtain ⟨hkey, hlo, hhi⟩ := h
    simp only [exec, execCipherEnc, blk, hkey, hlo, hhi]
    exact sameResults_finishOk _ ⟨rfl, rfl⟩
  | hashInit => exact sameResults_finishOk _ ⟨rfl, rfl, rfl⟩
  | hashCompress =>
    obtain ⟨hhh, hhm⟩ := h
    simp only [exec, execHashCompress, hhh, hhm]
    exact sameResults_finishOk _ rfl
  | hashBlock =>
    obtain ⟨⟨hhh, hhs, hhl⟩, hhm⟩ := h
    simp only [exec, execHashBlock, hhh, hhs, hhl, hhm]
    exact sameResults_finishOk _ ⟨rfl, rfl, rfl⟩
  | hashFinal nb =>
    obtain ⟨⟨hhh, hhs, hhl⟩, hhm⟩ := h
    simp only [exec, execHashFinal, hhh, hhs, hhl, hhm]
    exact sameResults_ite (sameResults_finishOk _ ⟨rfl, rfl, rfl⟩)
      (sameResults_finishError _ _ s s')
  | bnModexp =>
    obtain ⟨hbna, hbnb, hbnm⟩ := h
    simp only [exec, execBnModexp, opA, opB, opM, hbna, hbnb, hbnm]
    exact sameResults_ite (sameResults_finishError _ _ s s') (sameResults_finishOk _ rfl)
  | bnModinv =>
    obtain ⟨hbna, hbnm⟩ := h
    simp only [exec, execBnModinv, opA, opM, hbna, hbnm]
    exact sameResults_ite (sameResults_finishError _ _ s s')
      (sameResults_ite (sameResults_finishError _ _ s s') (sameResults_finishOk _ rfl))
  | bnMrRound =>
    obtain ⟨hbna, hbnm⟩ := h
    simp only [exec, execBnMrRound, opA, opM, hbna, hbnm]
    exact sameResults_ite (sameResults_finishOk _ trivial) (sameResults_finishError _ _ s s')
  | bnTrialdiv =>
    have hbnm : s'.bnm = s.bnm := h
    simp only [exec, execBnTrialdiv, opM, hbnm]
    refine sameResults_ite (sameResults_finishOk _ rfl) ?_
    cases smallFactor? s.bnm.toNat with
    | none => exact sameResults_finishOk _ rfl
    | some p => exact sameResults_finishOk _ rfl

/-- Settles O32: `exec_agree` for the results, and the frame of every completion. -/
theorem commandsUseTheirImplicitOperands : Obligations.CommandsUseTheirImplicitOperands := by
  intro i s s' _ hreads
  obtain ⟨t, t', ht, ht', hresult, herr, hcode, hwrites⟩ := exec_agree i hreads
  obtain ⟨u, hu, hcompletes⟩ := exec_completes i s
  obtain rfl : u = t := Host.Outcome.next.inj (hu.symm.trans ht)
  exact ⟨u, t', ht, ht', hresult, herr, hcode, hwrites, completes_frame hcompletes⟩

/-! ### The words of R87 -/

theorem commandWord_of_encode {i : Instr} {w : Word} (hwf : i.wellFormed = true)
    (h : encode i = w) : CommandWord i w :=
  ⟨h, decode_eq_ok_iff_encode.mpr ⟨hwf, h⟩⟩

/-- The word of a command as R87 writes it: OP, with NB from bit 8 on. -/
theorem encode_eq_or (i : Instr) :
    encode i = i.op.setWidth 32 ||| (i.nb.setWidth 32 <<< 8) := by
  calc encode i = (encode i).setWidth 32 := (BitVec.setWidth_eq _).symm
    _ = (0#18).setWidth 32 <<< (6 + 8) ||| i.nb.setWidth 32 <<< 8 ||| i.op.setWidth 32 :=
        BitVec.setWidth_append_append_eq_shiftLeft_setWidth_or
    _ = i.op.setWidth 32 ||| (i.nb.setWidth 32 <<< 8) := by simp [BitVec.or_comm]

/-- Settles O5: each listed command is well formed and has the listed word; the general form is
`encode_eq_or` at HASH_FINAL's OP. -/
theorem encodedWordsAreTheTables : Obligations.EncodedWordsAreTheTables := by
  refine ⟨?_, ?_, ?_, ?_, ?_, ?_, ?_, ?_, ?_, ?_, ?_, ?_, fun nb => encode_eq_or (.hashFinal nb)⟩
  all_goals exact commandWord_of_encode (by decide) (by decide)

end Sys2Proof.Proofs

/-! PROOFS. The family of 40_cipher: the S-boxes, the substitution and the round function, the
Feistel rounds and their inverses, and CIPHER_ENC; and the statements that rest on them. -/

namespace Sys2Proof.Proofs

open Sys2Proof Sys2Proof.Machine Sys2Proof.Laws

/-! ### The S-boxes (40_cipher R101) -/

theorem sboxTable_rows : ∀ row ∈ sboxTable, row.length = 16 ∧ row.Nodup := by decide

theorem sboxRow_mem {i : Nat} (hi : i < 8) : sboxTable.getD i [] ∈ sboxTable := by
  rw [List.getD_eq_getElem sboxTable [] hi]
  exact List.getElem_mem hi

/-- An S-box reads its row within bounds, and the row holds no value twice. -/
theorem sbox_injective {i : Nat} (hi : i < 8) : Function.Injective (sbox i) := by
  intro x y hxy
  obtain ⟨hlen, hnodup⟩ := sboxTable_rows _ (sboxRow_mem hi)
  have hx : x.toNat < (sboxTable.getD i []).length := hlen ▸ x.isLt
  have hy : y.toNat < (sboxTable.getD i []).length := hlen ▸ y.isLt
  unfold sbox at hxy
  rw [List.getD_eq_getElem _ _ hx, List.getD_eq_getElem _ _ hy] at hxy
  exact BitVec.eq_of_toNat_eq ((hnodup.getElem_inj_iff).mp hxy)

/-- Settles O33: each row has sixteen entries, all different. -/
theorem sboxRowsArePermutations : Obligations.SboxRowsArePermutations := by
  refine ⟨rfl, fun i => ⟨?_, fun _ _ hxy => sbox_injective i.isLt hxy⟩⟩
  obtain ⟨hlen, -⟩ := sboxTable_rows _ (sboxRow_mem i.isLt)
  exact hlen

/-! ### The substitution and the round function (40_cipher R102) -/

/-- Nibble `i` of the concatenation has `i` nibbles below it. -/
theorem subst_nibble (t : Word) {i : Nat} (hi : i < 8) :
    (subst t).extractLsb' (4 * i) 4 = substNibble t i := by
  interval_cases i <;>
    simp only [subst, BitVec.extractLsb'_append_eq_of_le, BitVec.extractLsb'_append_eq_right,
      BitVec.extractLsb'_eq_self, Nat.reduceMul, Nat.reduceSub, Nat.reduceLeDiff]

theorem roundF_eq_shifts (x k : Word) :
    roundF x k = (subst (x + k) <<< 11) ||| (subst (x + k) >>> 21) :=
  BitVec.rotateLeft_def

/-- F sees the sum alone: the carry of the key addition is discarded (40_cipher R106). -/
theorem roundF_congr {x k x' k' : Word} (h : x + k = x' + k') : roundF x k = roundF x' k' :=
  congrArg (fun t => (subst t).rotateLeft 11) h

theorem roundF_zero : roundF 0#32 0#32 = 0x33AF20EA#32 := by decide

/-- Settles O34: `subst_nibble`, the rotation as two shifts, and the two example values. -/
theorem substitutionActsNibbleByNibble : Obligations.SubstitutionActsNibbleByNibble :=
  ⟨fun t _ => subst_nibble t, roundF_eq_shifts, by decide, roundF_zero⟩

/-! ### The halves of a block (10_state R32) -/

/-- The halves (N1, N2) of a block. -/
def halves (b : Block) : Word × Word := (b.extractLsb' 0 32, b.extractLsb' 32 32)

/-- The block `N2 || N1`. -/
def joinHalves (n : Word × Word) : Block := n.2 ++ n.1

theorem joinHalves_halves (b : Block) : joinHalves (halves b) = b :=
  (append_wordOf b 0).trans BitVec.extractLsb'_eq_self

theorem halves_joinHalves (n : Word × Word) : halves (joinHalves n) = n :=
  Prod.ext BitVec.extractLsb'_append_eq_right BitVec.extractLsb'_append_eq_left

theorem halves_bijective : Function.Bijective halves :=
  Function.bijective_iff_has_inverse.mpr ⟨joinHalves, joinHalves_halves, halves_joinHalves⟩

theorem joinHalves_bijective : Function.Bijective joinHalves :=
  Function.bijective_iff_has_inverse.mpr ⟨halves, halves_joinHalves, joinHalves_halves⟩

/-! ### The Feistel rounds (40_cipher R104) -/

/-- A round before its swap: the round function of N1 is added to N2. -/
def mixHigh (x : Word) (n : Word × Word) : Word × Word := (n.1, n.2 ^^^ roundF n.1 x)

/-- N1 is kept, so that the same word is added a second time and cancels. -/
theorem mixHigh_involutive (x : Word) : Function.Involutive (mixHigh x) := by
  intro n
  simp [mixHigh]

theorem feistelRound_swap (k : Vector Word 8) (n : Word × Word) {r : Nat} (hr : r < 32) :
    feistelRound k n r = (mixHigh (roundKey k (kidx r)) n).swap :=
  if_pos hr

theorem feistelRound_last (k : Vector Word 8) (n : Word × Word) {r : Nat} (hr : ¬ r < 32) :
    feistelRound k n r = mixHigh (roundKey k (kidx r)) n :=
  if_neg hr

theorem feistelRound_bijective (k : Vector Word 8) (r : Nat) :
    Function.Bijective (feistelRound k · r) := by
  have hmix := (mixHigh_involutive (roundKey k (kidx r))).bijective
  by_cases hr : r < 32
  · simp only [feistelRound_swap k _ hr]
    exact Prod.swap_bijective.comp hmix
  · simpa only [feistelRound_last k _ hr] using hmix

/-- Running through a list of bijections is a bijection. -/
theorem foldl_bijective {α β : Type} {f : α → β → α} (hf : ∀ r, Function.Bijective (f · r))
    (l : List β) : Function.Bijective (l.foldl f ·) := by
  induction l with
  | nil => exact Function.bijective_id
  | cons r l ih => exact ih.comp (hf r)

theorem feistelRounds_bijective (k : Vector Word 8) (r : Nat) :
    Function.Bijective (feistelRounds k · r) :=
  (foldl_bijective (feistelRound_bijective k) (List.range' 1 r)).comp halves_bijective

/-- The ciphertext from the halves after round 32 (40_cipher R105). -/
theorem encrypt_eq_joinHalves (k : Vector Word 8) (b : Block) :
    encrypt k b = joinHalves (feistelRounds k b 32) := rfl

/-- Settles O35: `encrypt` splits the block into its halves, runs the rounds and joins the halves,
and each of the three is a bijection. -/
theorem encryptionIsBijective : Obligations.EncryptionIsBijective :=
  fun k => joinHalves_bijective.comp (feistelRounds_bijective k 32)

/-! ### The worked examples (40_cipher R105 to R107) -/

/-- The key of the example of 40_cipher R106. -/
def exampleKey : Vector Word 8 :=
  #v[0x01234567, 0x89ABCDEF, 0xFEDCBA98, 0x76543210, 0x00112233, 0x44556677, 0x8899AABB, 0xCCDDEEFF]

theorem feistelRounds_zeroKey :
    feistelRounds #v[0, 0, 0, 0, 0, 0, 0, 0] 0#64 32 = (0xA6C2FDC9#32, 0x12610BE2#32) := by
  decide +kernel

theorem encrypt_zeroKey :
    encrypt #v[0, 0, 0, 0, 0, 0, 0, 0] 0#64 = 0x12610BE2A6C2FDC9#64 := by
  rw [encrypt_eq_joinHalves, feistelRounds_zeroKey]
  rfl

theorem encrypt_exampleKey :
    encrypt exampleKey 0x0706050403020100#64 = 0x1C942288E8A65C85#64 := by
  decide +kernel

/-- Settles O36: the examples above; the first two rounds and the reversed keys by evaluation. -/
theorem cipherWorkedExamples : Obligations.CipherWorkedExamples :=
  ⟨encrypt_zeroKey, by decide +kernel, by decide +kernel, feistelRounds_zeroKey,
    encrypt_exampleKey, by decide +kernel⟩

/-! ### CIPHER_ENC (40_cipher R106) -/

theorem exec_cipherEnc (s : State) :
    exec .cipherEnc s = .next (finishOk false (writeCt (encrypt s.key (blk s)) s)) := rfl

theorem writeCt_append (c : Block) (s : State) : (writeCt c s).ctHi ++ (writeCt c s).ctLo = c :=
  joinHalves_halves c

/-- What CIPHER_ENC writes and keeps, at every state. -/
theorem cipherEnc_spec (s : State) : ∃ t, exec .cipherEnc s = .next t ∧
    t.ctHi ++ t.ctLo = encrypt s.key (blk s) ∧ KeepsOthers .cipherEnc s t ∧
    CompletedOk false s t :=
  ⟨_, exec_cipherEnc s, writeCt_append _ s, by simp [KeepsOthers, SameInputs, SameHash],
    by simp [CompletedOk, SameRest]⟩

/-- KEY and BLK are kept, so the second CIPHER_ENC reads what the first one read. -/
theorem cipherEnc_repeats {s t : State} (ht : exec .cipherEnc s = .next t)
    (hin : SameInputs s t) (herr : t.err = false) :
    ∃ u, exec .cipherEnc t = .next u ∧ SameCt t u := by
  obtain ⟨hkey, hlo, hhi, -⟩ := hin
  obtain ⟨t', u, ht', hu, -, -, -, hct⟩ := exec_agree .cipherEnc (s := s) (s' := t) ⟨hkey, hlo, hhi⟩
  obtain rfl : t' = t := Host.Outcome.next.inj (ht'.symm.trans ht)
  exact ⟨u, hu, hct herr⟩

/-- Settles O37: the completion of CIPHER_ENC, the round function of two equal sums, and the worked
examples. -/
theorem cipherEncWritesTheCiphertext : Obligations.CipherEncWritesTheCiphertext := by
  refine ⟨commandWord_of_encode rfl rfl, fun s => ?_, ?_, roundF_zero, ?_, encrypt_exampleKey⟩
  · obtain ⟨t, ht, hct, ⟨hin, hhash, hbnr⟩, hok⟩ := cipherEnc_spec s
    have ⟨_, herr, _⟩ := hok
    exact ⟨t, ht, hct, hin, hhash, hbnr, hok, cipherEnc_repeats ht hin herr⟩
  · exact (roundF_congr (x' := 0#32) (k' := 0#32) rfl).trans roundF_zero
  · rw [encrypt_zeroKey]
    decide

end Sys2Proof.Proofs

/-! PROOFS. The family of 41_hash: the transforms of the compression step, its keys and slices, the
hash context, the four commands on it, and the host's command sequence; and the statements that rest
on them. -/

namespace Sys2Proof.Proofs

open Sys2Proof Sys2Proof.Machine Sys2Proof.Laws

/-! ### Slices of a value -/

/-- A slice within the low part of a join, where that part is itself a slice. -/
theorem slice_append_slice {u w a l k n : Nat} (x : BitVec u) (y : BitVec w) (h : k + n ≤ l) :
    (x ++ y.extractLsb' a l).extractLsb' k n = y.extractLsb' (a + k) n := by
  rw [BitVec.extractLsb'_append_eq_of_add_le h]
  apply BitVec.eq_of_getLsbD_eq
  intro i hi
  have hl : k + i < l := by omega
  simp [hi, hl, Nat.add_assoc]

theorem getLsbD_byteOf {w : Nat} (v : BitVec w) (j : Nat) {i : Nat} (hi : i < 8) :
    (byteOf v j).getLsbD i = v.getLsbD (8 * j + i) := by
  simp [byteOf, hi]

/-! ### The A-transform (41_hash R120) -/

/-- Below the new top word the value has moved down by one word. -/
theorem transformA_low (y : Wide) {k n : Nat} (h : k + n ≤ 192) :
    (transformA y).extractLsb' k n = y.extractLsb' (64 + k) n :=
  slice_append_slice _ y h

theorem transformA_top (y : Wide) :
    (transformA y).extractLsb' 192 64 = y.extractLsb' 0 64 ^^^ y.extractLsb' 64 64 :=
  BitVec.extractLsb'_append_eq_left

/-- Settles O38: three words below the top, the top word, and the example by evaluation. -/
theorem transformAMovesWords : Obligations.TransformAMovesWords :=
  ⟨fun y => ⟨transformA_low y (by decide), transformA_low y (by decide),
    transformA_low y (by decide), transformA_top y⟩, by decide⟩

/-! ### The P-transform (41_hash R121) -/

/-- The value of the `n` bytes `b 0`, `b 1`, …, least significant first. -/
def joinBytes (b : Nat → BitVec 8) (n : Nat) : Wide :=
  (List.range n).foldl (fun acc j => acc ||| ((b j).setWidth 256 <<< (8 * j))) 0#256

theorem joinBytes_succ (b : Nat → BitVec 8) (n : Nat) :
    joinBytes b (n + 1) = joinBytes b n ||| ((b n).setWidth 256 <<< (8 * n)) := by
  simp [joinBytes, List.range_succ]

theorem getLsbD_joinBytes (b : Nat → BitVec 8) (n : Nat) {i : Nat} (hi : i < 256) :
    (joinBytes b n).getLsbD i = (decide (i < 8 * n) && (b (i / 8)).getLsbD (i % 8)) := by
  induction n with
  | zero => simp [joinBytes]
  | succ n ih =>
    rw [joinBytes_succ, BitVec.getLsbD_or, ih, BitVec.getLsbD_shiftLeft, BitVec.getLsbD_setWidth]
    obtain hlow | hhere | habove : i < 8 * n ∨ i / 8 = n ∨ 8 * (n + 1) ≤ i := by omega
    · have hlt : i < 8 * (n + 1) := by omega
      simp [hlow, hlt]
    · have hge : ¬ i < 8 * n := by omega
      have hlt : i < 8 * (n + 1) := by omega
      have hbit : i % 8 = i - 8 * n := by omega
      have hwide : i - 8 * n < 256 := by omega
      simp [hi, hge, hlt, hhere, hbit, hwide]
    · have hge : ¬ i < 8 * n := by omega
      have hge' : ¬ i < 8 * (n + 1) := by omega
      have hnone : (b n).getLsbD (i - 8 * n) = false := BitVec.getLsbD_of_ge _ _ (by omega)
      simp [hge, hge', hnone]

theorem byteOf_joinBytes (b : Nat → BitVec 8) {j : Nat} (hj : j < 32) :
    byteOf (joinBytes b 32) j = b j := by
  apply BitVec.eq_of_getLsbD_eq
  intro i hi
  have hlt : 8 * j + i < 256 := by omega
  have hdiv : (8 * j + i) / 8 = j := by omega
  have hmod : (8 * j + i) % 8 = i := by omega
  rw [getLsbD_byteOf _ _ hi, getLsbD_joinBytes _ _ hlt, hdiv, hmod, decide_eq_true hlt,
    Bool.true_and]

theorem transformP_eq_joinBytes (y : Wide) :
    transformP y = joinBytes (fun j => byteOf y (8 * (j % 4) + j / 4)) 32 := rfl

theorem byteOf_transformP (y : Wide) {i k : Nat} (hi : i ≤ 3) (hk : k ≤ 7) :
    byteOf (transformP y) (i + 4 * k) = byteOf y (8 * i + k) := by
  have hmod : (i + 4 * k) % 4 = i := by omega
  have hdiv : (i + 4 * k) / 4 = k := by omega
  rw [transformP_eq_joinBytes, byteOf_joinBytes _ (by omega), hmod, hdiv]

/-- Settles O39: `byteOf_transformP`, and the example by evaluation. -/
theorem transformPMovesBytes : Obligations.TransformPMovesBytes :=
  ⟨fun y _ _ => byteOf_transformP y, by decide +kernel⟩

/-! ### ψ (41_hash R122) -/

/-- The word that enters on top. -/
def psiFeedback (y : Wide) : BitVec 16 :=
  half y 0 ^^^ half y 1 ^^^ half y 2 ^^^ half y 3 ^^^ half y 12 ^^^ half y 15

theorem psi_eq_append (y : Wide) : psi y = psiFeedback y ++ y.extractLsb' 16 240 := rfl

theorem half_psi_low (y : Wide) {i : Nat} (hi : i < 15) : half (psi y) i = half y (i + 1) := by
  have hpos : 16 + 16 * i = 16 * (i + 1) := by omega
  rw [psi_eq_append, half, slice_append_slice _ y (by omega), hpos, half]

theorem half_psi_top (y : Wide) : half (psi y) 15 = psiFeedback y :=
  BitVec.extractLsb'_append_eq_left

/-- ψ as a shift with the feedback word on top. -/
theorem psi_eq_shift (y : Wide) :
    psi y = (y >>> 16) ||| ((psiFeedback y).setWidth 256 <<< 240) := by
  have hlow : (y.extractLsb' 16 240).setWidth 256 = y >>> 16 := by
    apply BitVec.eq_of_getLsbD_eq
    intro i hi
    by_cases hi' : i < 240
    · simp [hi, hi']
    · have hnone : y.getLsbD (16 + i) = false := BitVec.getLsbD_of_ge _ _ (by omega)
      simp [hi', hnone]
  calc psi y = (psi y).setWidth 256 := (BitVec.setWidth_eq _).symm
    _ = (psiFeedback y).setWidth 256 <<< 240 ||| (y.extractLsb' 16 240).setWidth 256 :=
        BitVec.setWidth_append_eq_shiftLeft_setWidth_or
    _ = (y >>> 16) ||| ((psiFeedback y).setWidth 256 <<< 240) := by rw [hlow, BitVec.or_comm]

/-- A value is its sixteen 16-bit words. -/
theorem eq_of_half_eq {x y : Wide} (h : ∀ i, i < 16 → half x i = half y i) : x = y := by
  apply BitVec.eq_of_getLsbD_eq
  intro i hi
  have hbit (v : Wide) : v.getLsbD i = (half v (i / 16)).getLsbD (i % 16) := by
    have hpos : 16 * (i / 16) + i % 16 = i := by omega
    have hlt : i % 16 < 16 := by omega
    simp [half, hpos, hlt]
  rw [hbit x, hbit y, h _ (by omega)]

/-- The words 1 to 15 are read off ψ's result, and then word 0 off its top word. -/
theorem psi_injective : Function.Injective psi := by
  intro x y hxy
  have hhigh (i : Nat) (hi : i < 15) : half x (i + 1) = half y (i + 1) := by
    rw [← half_psi_low x hi, ← half_psi_low y hi, hxy]
  have htop : psiFeedback x = psiFeedback y := by
    rw [← half_psi_top x, ← half_psi_top y, hxy]
  have hzero : half x 0 = half y 0 := by
    unfold psiFeedback at htop
    rwa [hhigh 0 (by decide), hhigh 1 (by decide), hhigh 2 (by decide), hhigh 11 (by decide),
      hhigh 14 (by decide), BitVec.xor_left_inj, BitVec.xor_left_inj, BitVec.xor_left_inj,
      BitVec.xor_left_inj, BitVec.xor_left_inj] at htop
  refine eq_of_half_eq fun i hi => ?_
  cases i with
  | zero => exact hzero
  | succ i => exact hhigh i (by omega)

/-- Settles O40: the words of ψ's result, its form as a shift, and injectivity on a finite type; the
examples by evaluation. -/
theorem psiShiftsWithFeedback : Obligations.PsiShiftsWithFeedback :=
  ⟨fun y _ => half_psi_low y, half_psi_top, psi_eq_shift, fun _ => rfl, fun _ _ => rfl,
    Finite.injective_iff_bijective.mp psi_injective, by decide, by decide⟩

/-! ### The keys (41_hash R123, R124) -/

theorem keyConst_of_ne {j : Nat} (h : j ≠ 3) : keyConst j = 0#256 := if_neg h

theorem subKey_eq (h m : Wide) (n : Nat) :
    subKey h m (n + 1) = transformP ((keyState h m n).1 ^^^ (keyState h m n).2) := rfl

theorem keyState_zero (h m : Wide) : keyState h m 0 = (h, m) := rfl

theorem keyState_succ (h m : Wide) (n : Nat) :
    keyState h m (n + 1) = (transformA (keyState h m n).1 ^^^ keyConst (n + 2),
      transformA (transformA (keyState h m n).2)) := rfl

/-- Where C is zero, both sides only go through A. -/
theorem keyState_succ_of_ne (h m : Wide) {n : Nat} (hn : n ≠ 1) :
    keyState h m (n + 1) =
      (transformA (keyState h m n).1, transformA (transformA (keyState h m n).2)) := by
  rw [keyState_succ, keyConst_of_ne (by omega), BitVec.xor_zero]

/-- Settles O41: the key schedule unrolled, with C2 and C4 zero; the example keys by evaluation. -/
theorem keyGeneration : Obligations.KeyGeneration := by
  refine ⟨fun h m => ?_, by decide +kernel, by decide +kernel, by decide +kernel,
    by decide +kernel⟩
  have hU2 := keyState_succ_of_ne h m (n := 0) (by decide)
  have hU3 := keyState_succ h m 1
  have hU4 := keyState_succ_of_ne h m (n := 2) (by decide)
  rw [keyState_zero] at hU2
  rw [hU2] at hU3
  rw [hU3] at hU4
  exact ⟨rfl, by rw [subKey_eq, hU2], by rw [subKey_eq, hU3]; rfl, by rw [subKey_eq, hU4]; rfl⟩

/-! ### The slices (41_hash R125, R126) -/

theorem encSlices_slice (h m : Wide) {i : Nat} (h1 : 1 ≤ i) (h4 : i ≤ 4) :
    (encSlices h m).extractLsb' (64 * (i - 1)) 64 = encSlice h m i := by
  interval_cases i <;>
    simp only [encSlices, BitVec.extractLsb'_append_eq_of_le, BitVec.extractLsb'_append_eq_right,
      BitVec.extractLsb'_eq_self, Nat.reduceMul, Nat.reduceSub, Nat.reduceLeDiff]

theorem roundKey_wordsOf (v : Wide) {t : Nat} (h1 : 1 ≤ t) (h8 : t ≤ 8) :
    roundKey (wordsOf v) t = v.extractLsb' (32 * t - 32) 32 := by
  interval_cases t <;> rfl

/-- Settles O42: each slice of S is the cipher's output for its key, whose words are the round
keys. -/
theorem slicesAreEncryptedUnderTheirKeys : Obligations.SlicesAreEncryptedUnderTheirKeys :=
  fun h m _ h1 h4 => ⟨encSlices_slice h m h1 h4, fun _ => roundKey_wordsOf _⟩

/-! ### The compression step and the digests by value (41_hash R128, R133) -/

/-- Settles O50, by evaluation. -/
theorem publishedDigests : Obligations.PublishedDigests :=
  ⟨by decide +kernel, by decide +kernel, by decide +kernel, by decide +kernel⟩

/-! ### The low bytes of HM (41_hash R132) -/

theorem lowBytes_eq_of_toNat {m x : Wide} {nb : Nat} (h : x.toNat = m.toNat % 2 ^ (8 * nb)) :
    lowBytes m nb = x := by
  rw [lowBytes, ← h, BitVec.ofNat_toNat, BitVec.setWidth_eq]

theorem lowBytes_all (m : Wide) : lowBytes m 32 = m :=
  lowBytes_eq_of_toNat (Nat.mod_eq_of_lt m.isLt).symm

theorem getLsbD_lowBytes (m : Wide) (nb : Nat) {i : Nat} (hi : i < 256) :
    (lowBytes m nb).getLsbD i = (decide (i < 8 * nb) && m.getLsbD i) := by
  rw [lowBytes, BitVec.getLsbD_ofNat, Nat.testBit_mod_two_pow, BitVec.testBit_toNat,
    decide_eq_true hi, Bool.true_and]

theorem lowBytes_congr {m m' : Wide} {nb : Nat} (h : ∀ i, i < nb → byteOf m' i = byteOf m i) :
    lowBytes m' nb = lowBytes m nb := by
  apply BitVec.eq_of_getLsbD_eq
  intro i hi
  rw [getLsbD_lowBytes m' nb hi, getLsbD_lowBytes m nb hi]
  by_cases hin : i < 8 * nb
  · have hbyte := h (i / 8) (by omega)
    have hpos : 8 * (i / 8) + i % 8 = i := by omega
    have hlt : i % 8 < 8 := by omega
    rw [← hpos, ← getLsbD_byteOf m' _ hlt, ← getLsbD_byteOf m _ hlt, hbyte]
  · simp [hin]

/-- A partial block is read through its low bytes alone. -/
theorem absorbLast_congr (h sg l : Wide) {m m' : Wide} {nb : Nat}
    (heq : lowBytes m' nb = lowBytes m nb) : absorbLast h sg l m' nb = absorbLast h sg l m nb := by
  simp only [absorbLast, heq]

/-! ### The hash context (41_hash R129 to R132) -/

/-- The hash context (H, Σ, L) of a state. -/
def hashContext (s : State) : Wide × Wide × Wide := (s.hh, s.hs, s.hl)

/-- A successful completion that leaves the context `c`. -/
def completeHash (c : Wide × Wide × Wide) (s : State) : State :=
  finishOk false (writeHash c.1 c.2.1 c.2.2 s)

/-- The context after a full block `x`. -/
def absorbBlock (c : Wide × Wide × Wide) (x : Wide) : Wide × Wide × Wide :=
  (compress c.1 x, c.2.1 + x, c.2.2 + 256#256)

/-- The context after a last block of `nb` bytes, the length block and the checksum block. -/
def finishMessage (c : Wide × Wide × Wide) (m : Wide) (nb : Nat) : Wide × Wide × Wide :=
  let d := absorbLast c.1 c.2.1 c.2.2 m nb
  (finalSteps d.1 d.2.1 d.2.2, d.2)

@[simp] theorem hashContext_completeHash (c : Wide × Wide × Wide) (s : State) :
    hashContext (completeHash c s) = c := rfl

theorem completeHash_frame (c : Wide × Wide × Wide) (s : State) :
    SameInputs s (completeHash c s) ∧ SameCt s (completeHash c s) ∧
      (completeHash c s).bnr = s.bnr ∧ CompletedOk false s (completeHash c s) := by
  simp [completeHash, SameInputs, SameCt, CompletedOk, SameRest]

/-- Only the last of two completions shows. -/
theorem completeHash_completeHash (c d : Wide × Wide × Wide) (s : State) :
    completeHash d (completeHash c s) = completeHash d s := rfl

theorem finishMessage_zero (c : Wide × Wide × Wide) (m : Wide) :
    finishMessage c m 0 = (finalSteps c.1 c.2.1 c.2.2, c.2) := rfl

theorem finishMessage_pos (c : Wide × Wide × Wide) {m x : Wide} {nb : Nat} (hnb : 0 < nb)
    (hx : lowBytes m nb = x) :
    finishMessage c m nb =
      (finalSteps (compress c.1 x) (c.2.1 + x) (c.2.2 + BitVec.ofNat 256 (8 * nb)),
        c.2.1 + x, c.2.2 + BitVec.ofNat 256 (8 * nb)) := by
  simp only [finishMessage, absorbLast, if_pos hnb, hx]

/-- A last block of 32 bytes is a full block (41_hash R132, corner case nb = 32). -/
theorem finishMessage_all (c : Wide × Wide × Wide) (m x : Wide) :
    finishMessage c m 32 = finishMessage (absorbBlock c m) x 0 := by
  rw [finishMessage_pos c (by decide) (lowBytes_all m), finishMessage_zero]
  rfl

theorem finishMessage_congr (c : Wide × Wide × Wide) {m m' : Wide} {nb : Nat}
    (h : lowBytes m' nb = lowBytes m nb) : finishMessage c m' nb = finishMessage c m nb := by
  simp only [finishMessage, absorbLast_congr _ _ _ h]

/-- The length grows by the bits of the last block, also when there is none. -/
theorem finishMessage_length (c : Wide × Wide × Wide) (m : Wide) (nb : Nat) :
    (finishMessage c m nb).2.2 = c.2.2 + BitVec.ofNat 256 (8 * nb) := by
  obtain rfl | hnb := Nat.eq_zero_or_pos nb
  · exact (BitVec.add_zero _).symm
  · rw [finishMessage_pos c hnb rfl]

/-! ### The four commands (41_hash R129 to R132) -/

theorem exec_hashInit (s : State) :
    exec .hashInit s = .next (completeHash (0#256, 0#256, 0#256) s) := rfl

theorem exec_hashCompress (s : State) :
    exec .hashCompress s = .next (completeHash (compress s.hh s.hm, s.hs, s.hl) s) := rfl

theorem exec_hashBlock (s : State) :
    exec .hashBlock s = .next (completeHash (absorbBlock (hashContext s) s.hm) s) := rfl

theorem exec_hashFinal {nb : BitVec 6} (h : nb.toNat ≤ 32) (s : State) :
    exec (.hashFinal nb) s =
      .next (completeHash (finishMessage (hashContext s) s.hm nb.toNat) s) :=
  if_pos h

/-- Settles O43: `exec_hashInit` and the frame of a completion. -/
theorem hashInitClearsTheContext : Obligations.HashInitClearsTheContext := by
  refine ⟨commandWord_of_encode rfl rfl, fun s => ?_⟩
  obtain ⟨hin, hct, hbnr, hok⟩ := completeHash_frame (0#256, 0#256, 0#256) s
  exact ⟨_, exec_hashInit s, rfl, rfl, rfl, hin, hct, hbnr, hok, rfl, rfl, rfl⟩

/-- Settles O44: `exec_hashCompress` and the frame of a completion. -/
theorem hashCompressIsOneStep : Obligations.HashCompressIsOneStep :=
  ⟨commandWord_of_encode rfl rfl,
    fun s => ⟨_, exec_hashCompress s, rfl, rfl, rfl, completeHash_frame _ s⟩⟩

/-- Settles O45: `exec_hashBlock` and the frame of a completion. -/
theorem hashBlockAbsorbsABlock : Obligations.HashBlockAbsorbsABlock :=
  ⟨commandWord_of_encode rfl rfl, fun s => ⟨_, exec_hashBlock s, rfl,
    BitVec.toNat_add s.hs s.hm, BitVec.toNat_add s.hl 256#256, completeHash_frame _ s⟩⟩

/-- HASH_FINAL's opcode with a byte count above 32 is Illegal (30_encoding R84). -/
theorem completeStep_byteCountAbove32 {s : State} (hop : opField s.lcmd = 0x13#8)
    (hnb : 32 < (nbField s.lcmd).toNat) :
    completeStep s = .next (finishError .illegalCmd s) := by
  obtain ⟨e, he⟩ := exists_decode_error_iff.mpr (.inr (.inr (.inl ⟨hop, hnb⟩)))
  exact completeStep_error he

/-- Settles O46: `exec_hashFinal` with no last block and with one, and the frame of a completion; the
Illegal word by `completeStep_byteCountAbove32`. -/
theorem hashFinalFinishesTheMessage : Obligations.HashFinalFinishesTheMessage := by
  refine ⟨fun nb hnb => ?_, fun nb s hnb => ?_, fun s hop hnb => ?_⟩
  · exact commandWord_of_encode (decide_eq_true hnb) (encode_eq_or (.hashFinal nb))
  · refine ⟨_, exec_hashFinal hnb s, fun hzero => ?_, fun hpos x hx => ?_, completeHash_frame _ s⟩
    · rw [hzero, finishMessage_zero]
      exact ⟨rfl, rfl, rfl⟩
    · rw [finishMessage_pos _ hpos (lowBytes_eq_of_toNat hx)]
      exact ⟨rfl, rfl, rfl⟩
  · exact ⟨_, completeStep_byteCountAbove32 hop hnb, completedErr_finishError .illegalCmd s⟩

/-- Settles O47: `finishMessage_all`, and the first of two completions does not show. -/
theorem hashFinal32IsBlockThenFinal0 : Obligations.HashFinal32IsBlockThenFinal0 := by
  intro s t ht
  obtain rfl : completeHash (absorbBlock (hashContext s) s.hm) s = t :=
    Host.Outcome.next.inj ((exec_hashBlock s).symm.trans ht)
  have h32 : (32#6 : BitVec 6).toNat = 32 := rfl
  have h0 : (0#6 : BitVec 6).toNat = 0 := rfl
  rw [exec_hashFinal (by decide), exec_hashFinal (by decide), h32, h0, hashContext_completeHash,
    completeHash_completeHash, finishMessage_all]

/-- Settles O48: HASH_FINAL reads HM through its low bytes. -/
theorem hashFinalIgnoresBytesPastTheCount : Obligations.HashFinalIgnoresBytesPastTheCount := by
  rintro nb s s' hnb ⟨hhh, hhs, hhl⟩ hbytes
  have hctx : hashContext s' = hashContext s := by simp only [hashContext, hhh, hhs, hhl]
  refine ⟨_, _, exec_hashFinal hnb s, exec_hashFinal hnb s', ?_, rfl, rfl⟩
  rw [hctx, finishMessage_congr _ (lowBytes_congr hbytes)]
  exact ⟨rfl, rfl, rfl⟩

/-! ### The host's command sequence (41_hash R134) -/

theorem absorbBlocks_succ (m : List (BitVec 8)) (n b : Nat) (c : Wide × Wide × Wide) :
    absorbBlocks m (n + 1) b c =
      absorbBlocks m n (b + 1) (absorbBlock c (messageBlock m (32 * b))) := rfl

/-- Absorbing one block more, at the end. -/
theorem absorbBlocks_succ_last (m : List (BitVec 8)) (n b : Nat) (c : Wide × Wide × Wide) :
    absorbBlocks m (n + 1) b c =
      absorbBlock (absorbBlocks m n b c) (messageBlock m (32 * (b + n))) := by
  induction n generalizing b c with
  | zero => rfl
  | succ n ih =>
    have hb : b + 1 + n = b + (n + 1) := by omega
    rw [absorbBlocks_succ, ih, hb, ← absorbBlocks_succ]

theorem absorbBlocks_length (m : List (BitVec 8)) (n b : Nat) (c : Wide × Wide × Wide) :
    (absorbBlocks m n b c).2.2 = c.2.2 + BitVec.ofNat 256 (256 * n) := by
  induction n with
  | zero => exact (BitVec.add_zero _).symm
  | succ n ih =>
    rw [absorbBlocks_succ_last, absorbBlock, ih, BitVec.add_assoc, ← BitVec.ofNat_add]
    rfl

theorem absorbRun_succ (m : List (BitVec 8)) (n b : Nat) (s : State) :
    absorbRun m (n + 1) b s =
      absorbRun m n (b + 1) (completeHash (absorbBlock (hashContext s) (messageBlock m (32 * b)))
        { s with hm := messageBlock m (32 * b) }) := rfl

/-- A run of HASH_BLOCK commands absorbs their blocks. -/
theorem absorbRun_spec (m : List (BitVec 8)) (n b : Nat) (s : State) :
    ∃ t, absorbRun m n b s = .next t ∧ hashContext t = absorbBlocks m n b (hashContext s) := by
  induction n generalizing b s with
  | zero => exact ⟨s, rfl, rfl⟩
  | succ n ih =>
    rw [absorbRun_succ, absorbBlocks_succ]
    exact ih (b + 1) _

/-- The host's commands finish successfully, with the blocks and the last bytes absorbed. -/
theorem hashRun_spec (m : List (BitVec 8)) (n : Nat) {nb : BitVec 6} (hnb : nb.toNat ≤ 32)
    (last : Wide) (s : State) : ∃ t, hashRun m n nb last s = .next t ∧
      hashContext t =
        finishMessage (absorbBlocks m n 0 (0#256, 0#256, 0#256)) last nb.toNat ∧
      t.done = true ∧ t.err = false := by
  obtain ⟨u, hu, hctx⟩ := absorbRun_spec m n 0 (completeHash (0#256, 0#256, 0#256) s)
  have hrun : hashRun m n nb last s = exec (.hashFinal nb) { u with hm := last } := by
    simp only [hashRun, exec_hashInit, hu]
  rw [hashContext_completeHash] at hctx
  rw [← hctx]
  exact ⟨_, hrun.trans (exec_hashFinal hnb _), rfl, rfl, rfl⟩

theorem hash94_eq_finishMessage (m : List (BitVec 8)) :
    hash94 m = (finishMessage (absorbBlocks m (m.length / 32) 0 (0#256, 0#256, 0#256))
      (messageBlock m (32 * (m.length / 32))) (m.length % 32)).1 := rfl

/-- The message's rest may stand in HM with any bytes past its end (20_memory R69). -/
theorem hashRun_rest (m : List (BitVec 8)) (s : State) (last : Wide)
    (hlast : last.toNat % 2 ^ (8 * (m.length % 32)) =
      (messageBlock m (32 * (m.length / 32))).toNat) :
    ∃ t, hashRun m (m.length / 32) (BitVec.ofNat 6 (m.length % 32)) last s = .next t ∧
      t.hh = hash94 m ∧ t.hl = BitVec.ofNat 256 (8 * m.length) ∧ t.done = true ∧
      t.err = false := by
  have hnb : (BitVec.ofNat 6 (m.length % 32)).toNat = m.length % 32 := by
    rw [BitVec.toNat_ofNat]
    omega
  obtain ⟨t, ht, hctx, hdone, herr⟩ :=
    hashRun_spec m (m.length / 32) (nb := BitVec.ofNat 6 (m.length % 32)) (by omega) last s
  rw [hnb] at hctx
  have hlow : lowBytes last (m.length % 32) =
      lowBytes (messageBlock m (32 * (m.length / 32))) (m.length % 32) := by
    rw [lowBytes_eq_of_toNat hlast.symm, lowBytes_eq_of_toNat]
    rw [← hlast, Nat.mod_mod]
  refine ⟨t, ht, ?_, ?_, hdone, herr⟩
  · rw [hash94_eq_finishMessage, ← finishMessage_congr _ hlow, ← hctx, hashContext]
  · have hbits : 256 * (m.length / 32) + 8 * (m.length % 32) = 8 * m.length := by omega
    calc t.hl = (hashContext t).2.2 := rfl
      _ = BitVec.ofNat 256 (256 * (m.length / 32)) + BitVec.ofNat 256 (8 * (m.length % 32)) := by
          rw [hctx, finishMessage_length, absorbBlocks_length, BitVec.zero_add]
      _ = BitVec.ofNat 256 (8 * m.length) := by rw [← BitVec.ofNat_add, hbits]

/-- The last of `n + 1` whole blocks may go by HASH_FINAL 32. -/
theorem hashRun_wholeBlocks (m : List (BitVec 8)) (s : State) {n : Nat}
    (hlen : m.length = 32 * (n + 1)) :
    ∃ t, hashRun m n 32#6 (messageBlock m (32 * (0 + n))) s = .next t ∧ t.hh = hash94 m := by
  have hdiv : m.length / 32 = n + 1 := by omega
  have hmod : m.length % 32 = 0 := by omega
  have h32 : (32#6 : BitVec 6).toNat = 32 := rfl
  obtain ⟨t, ht, hctx, -, -⟩ := hashRun_spec m n (nb := 32#6) (by decide)
    (messageBlock m (32 * (0 + n))) s
  rw [h32, finishMessage_all _ _ (messageBlock m (32 * (n + 1))), ← absorbBlocks_succ_last]
    at hctx
  refine ⟨t, ht, ?_⟩
  rw [hash94_eq_finishMessage, hdiv, hmod, ← hctx, hashContext]

/-- Settles O49: the rest of the message by its byte count, or a last whole block by 32. -/
theorem commandSequenceComputesHash94 : Obligations.CommandSequenceComputesHash94 := by
  refine ⟨hashRun_rest, fun m s hpos hfull => ?_⟩
  obtain ⟨n, hlen⟩ : ∃ n, m.length = 32 * (n + 1) := ⟨m.length / 32 - 1, by omega⟩
  have hcount : m.length / 32 - 1 = n := by omega
  have hstart : m.length - 32 = 32 * (0 + n) := by omega
  rw [hcount, hstart]
  exact hashRun_wholeBlocks m s hlen

end Sys2Proof.Proofs

/-! PROOFS. The family of 42_bignum: what each of the four commands does, the small primes and trial
division, the Miller–Rabin round, and RSA on the engine; and the statements that rest on them. -/

namespace Sys2Proof.Proofs

open Sys2Proof Sys2Proof.Machine Sys2Proof.Laws

/-! ### Modular exponentiation and inverse (42_bignum R151, R152, R154) -/

/-- What a command that writes BNR keeps, and its status. -/
theorem finishOk_writeBnr_frame (r : Bool) (b : Nat) (s : State) :
    SameInputs s (finishOk r (writeBnr b s)) ∧ SameCt s (finishOk r (writeBnr b s)) ∧
      SameHash s (finishOk r (writeBnr b s)) ∧ CompletedOk r s (finishOk r (writeBnr b s)) := by
  simp [SameInputs, SameCt, SameHash, CompletedOk, SameRest]

theorem exec_bnModexp_zero {s : State} (h : s.bnm.toNat = 0) :
    exec .bnModexp s = .next (finishError .invalidParam s) :=
  execBnModexp_zero s h

/-- BN_MODEXP with M ≠ 0: the power, and the frame. -/
theorem bnModexp_spec {s : State} (h : s.bnm.toNat ≠ 0) : ∃ t, exec .bnModexp s = .next t ∧
    t.bnr.toNat = s.bna.toNat ^ s.bnb.toNat % s.bnm.toNat ∧
    SameInputs s t ∧ SameCt s t ∧ SameHash s t ∧ CompletedOk false s t := by
  have hval : powMod (opA s) (opB s) (opM s) = s.bna.toNat ^ s.bnb.toNat % s.bnm.toNat :=
    powMod_eq _ _ _
  have hlt : s.bna.toNat ^ s.bnb.toNat % s.bnm.toNat < s.bnm.toNat :=
    Nat.mod_lt _ (Nat.pos_of_ne_zero h)
  refine ⟨_, execBnModexp_ok s h, ?_, finishOk_writeBnr_frame false _ s⟩
  rw [hval]
  exact writeBnr_toNat_of_lt s s.bnm hlt

theorem exec_bnModinv_zero {s : State} (h : s.bnm.toNat = 0) :
    exec .bnModinv s = .next (finishError .invalidParam s) :=
  execBnModinv_zero s h

theorem exec_bnModinv_noInverse {s : State} (h : s.bnm.toNat ≠ 0)
    (hg : Nat.gcd s.bna.toNat s.bnm.toNat ≠ 1) :
    exec .bnModinv s = .next (finishError .noInverse s) :=
  execBnModinv_none s h hg

/-- BN_MODINV with M ≠ 0 and an invertible A: an inverse below M, and the frame. -/
theorem bnModinv_spec {s : State} (h : s.bnm.toNat ≠ 0)
    (hg : Nat.gcd s.bna.toNat s.bnm.toNat = 1) : ∃ t, exec .bnModinv s = .next t ∧
    t.bnr.toNat < s.bnm.toNat ∧ s.bna.toNat * t.bnr.toNat % s.bnm.toNat = 1 % s.bnm.toNat ∧
    SameInputs s t ∧ SameCt s t ∧ SameHash s t ∧ CompletedOk false s t := by
  have hlt : inverseMod (opA s) (opM s) < s.bnm.toNat := inverseMod_lt _ _ h
  have hbnr : (finishOk false (writeBnr (inverseMod (opA s) (opM s)) s)).bnr.toNat =
      inverseMod (opA s) (opM s) := writeBnr_toNat_of_lt s s.bnm hlt
  refine ⟨_, execBnModinv_ok s h hg, ?_, ?_, finishOk_writeBnr_frame false _ s⟩
  · rw [hbnr]
    exact hlt
  · rw [hbnr]
    exact mul_inverseMod _ _ h hg

theorem inverse_unique {a m x y : Nat} (hg : Nat.gcd a m = 1) (hx : x < m) (hy : y < m)
    (hax : a * x % m = 1 % m) (hay : a * y % m = 1 % m) : x = y :=
  have hmul : a * x ≡ a * y [MOD m] := hax.trans hay.symm
  (hmul.cancel_left_of_coprime ((Nat.gcd_comm m a).trans hg)).eq_of_lt_of_lt hx hy

/-- Settles O52: `exec_bnModexp_zero` and `bnModexp_spec`. -/
theorem modexpWritesThePower : Obligations.ModexpWritesThePower :=
  ⟨commandWord_of_encode rfl rfl,
    fun s h => ⟨_, exec_bnModexp_zero h, completedErr_finishError .invalidParam s⟩,
    fun _ h => bnModexp_spec h⟩

/-- Settles O53: the two errors, and `bnModinv_spec` with `inverse_unique`. -/
theorem modinvWritesTheInverse : Obligations.ModinvWritesTheInverse := by
  refine ⟨commandWord_of_encode rfl rfl, fun s h => ?_, fun s h hg => ?_, fun s h hg => ?_⟩
  · exact ⟨_, exec_bnModinv_zero h, completedErr_finishError .invalidParam s⟩
  · exact ⟨_, exec_bnModinv_noInverse h hg, completedErr_finishError .noInverse s⟩
  · obtain ⟨t, ht, hlt, hinv, hframe⟩ := bnModinv_spec h hg
    exact ⟨t, ht, hlt, hinv, fun x hx hax => inverse_unique hg hx hlt hax hinv, hframe⟩

/-- What a success of BN_MODEXP says. -/
theorem bnModexp_success {s t : State} (ht : exec .bnModexp s = .next t) (herr : t.err = false) :
    s.bnm.toNat ≠ 0 ∧ t.bnr.toNat = s.bna.toNat ^ s.bnb.toNat % s.bnm.toNat := by
  by_cases h : s.bnm.toNat = 0
  · obtain rfl := Host.Outcome.next.inj ((exec_bnModexp_zero h).symm.trans ht)
    cases herr
  · obtain ⟨u, hu, hpow, -⟩ := bnModexp_spec h
    obtain rfl : u = t := Host.Outcome.next.inj (hu.symm.trans ht)
    exact ⟨h, hpow⟩

/-- What a success of BN_MODINV says. -/
theorem bnModinv_success {s t : State} (ht : exec .bnModinv s = .next t) (herr : t.err = false) :
    t.bnr.toNat < s.bnm.toNat ∧ s.bna.toNat * t.bnr.toNat % s.bnm.toNat = 1 % s.bnm.toNat := by
  by_cases h : s.bnm.toNat = 0
  · obtain rfl := Host.Outcome.next.inj ((exec_bnModinv_zero h).symm.trans ht)
    cases herr
  by_cases hg : Nat.gcd s.bna.toNat s.bnm.toNat = 1
  · obtain ⟨u, hu, hlt, hinv, -⟩ := bnModinv_spec h hg
    obtain rfl : u = t := Host.Outcome.next.inj (hu.symm.trans ht)
    exact ⟨hlt, hinv⟩
  · obtain rfl := Host.Outcome.next.inj ((exec_bnModinv_noInverse h hg).symm.trans ht)
    cases herr

/-! ### Sieving a table of primes -/

/-- `l` holds the primes below `n`, ascending. -/
structure PrimeTable (n : Nat) (l : List Nat) : Prop where
  mem_iff : ∀ p, p ∈ l ↔ p.Prime ∧ p < n
  ascending : l.Pairwise (· < ·)

/-- A sieve step: of the numbers from `n` on and below `m`, those that share no factor with the
product of `l` are added. -/
def sieveStep (n m : Nat) (l : List Nat) : List Nat :=
  l ++ (List.range' n (m - n)).filter fun k => Nat.gcd k l.prod == 1

theorem mem_sieveStep {n m k : Nat} {l : List Nat} (hnm : n ≤ m) :
    k ∈ sieveStep n m l ↔ k ∈ l ∨ ((n ≤ k ∧ k < m) ∧ k.Coprime l.prod) := by
  simp [sieveStep, Nat.Coprime, Nat.add_sub_cancel' hnm]

/-- From `n` on and below `n²`, a number is prime exactly when it shares no factor with the primes
below `n`: the least factor of a composite is at most its root. -/
theorem PrimeTable.prime_iff_coprime {n k : Nat} {l : List Nat} (h : PrimeTable n l)
    (hn : 2 ≤ n) (hnk : n ≤ k) (hk : k < n * n) : k.Prime ↔ k.Coprime l.prod := by
  constructor
  · intro hprime
    rw [Nat.coprime_list_prod_right_iff]
    intro p hp
    obtain ⟨hpp, hpn⟩ := (h.mem_iff p).mp hp
    exact (Nat.coprime_primes hprime hpp).mpr (by omega)
  · intro hcop
    by_contra hprime
    have hfac : k.minFac.Prime := Nat.minFac_prime (by omega)
    have hsq : k.minFac ^ 2 ≤ k := Nat.minFac_sq_le_self (by omega) hprime
    have hlt : k.minFac < n := Nat.mul_self_lt_mul_self_iff.mp (by rw [← pow_two]; omega)
    have hmem : k.minFac ∈ l := (h.mem_iff _).mpr ⟨hfac, hlt⟩
    exact Nat.not_coprime_of_dvd_of_dvd hfac.one_lt k.minFac_dvd (List.dvd_prod hmem) hcop

/-- A sieve step may go as far as the square. -/
theorem PrimeTable.sieveStep {n : Nat} {l : List Nat} (h : PrimeTable n l) (hn : 2 ≤ n) {m : Nat}
    (hnm : n ≤ m) (hm : m ≤ n * n) : PrimeTable m (sieveStep n m l) where
  mem_iff k := by
    rw [mem_sieveStep hnm, h.mem_iff]
    by_cases hk : n ≤ k ∧ k < m
    · obtain ⟨hnk, hkm⟩ := hk
      have hnot : ¬ k < n := Nat.not_lt.mpr hnk
      simp [hnk, hkm, hnot, h.prime_iff_coprime hn hnk (by omega)]
    · have hlt : k < n ↔ k < m := by omega
      simp [hk, hlt]
  ascending := by
    have hnew := (List.pairwise_lt_range' (s := n) (n := m - n)).filter fun k =>
      Nat.gcd k l.prod == 1
    refine List.pairwise_append.mpr ⟨h.ascending, hnew, ?_⟩
    intro p hp k hk
    obtain ⟨-, hpn⟩ := (h.mem_iff p).mp hp
    obtain ⟨hnk, -⟩ := List.mem_range'_1.mp (List.mem_of_mem_filter hk)
    exact Nat.lt_of_lt_of_le hpn hnk

theorem primeTable_two : PrimeTable 2 [] where
  mem_iff p := by
    simp only [List.not_mem_nil, false_iff, not_and, Nat.not_lt]
    exact Nat.Prime.two_le
  ascending := .nil

/-! ### The small primes (42_bignum R159) -/

/-- Three steps make the first 25 entries. -/
theorem sieve_to_100 :
    sieveStep 10 100 (sieveStep 4 10 (sieveStep 2 4 [])) = smallPrimes.take 25 := by
  decide +kernel

/-- One gcd for each number from 100 on, since 10000 = 100², makes the rest. -/
theorem sieve_to_10000 : sieveStep 100 10000 (smallPrimes.take 25) = smallPrimes := by
  decide +kernel

/-- The literal table is what four sieve steps make of nothing. -/
theorem primeTable_smallPrimes : PrimeTable 10000 smallPrimes := by
  have h4 : PrimeTable 4 _ := primeTable_two.sieveStep (by decide) (by decide) (by decide)
  have h10 : PrimeTable 10 _ := h4.sieveStep (by decide) (by decide) (by decide)
  have h100 : PrimeTable 100 _ := h10.sieveStep (by decide) (by decide) (by decide)
  rw [sieve_to_100] at h100
  have h10000 : PrimeTable 10000 _ := h100.sieveStep (by decide) (by decide) (by decide)
  rwa [sieve_to_10000] at h10000

/-- Settles O57: `primeTable_smallPrimes`; the length and the ends are read off the table. -/
theorem smallPrimesAreThePrimesBelow10000 : Obligations.SmallPrimesAreThePrimesBelow10000 :=
  ⟨primeTable_smallPrimes.mem_iff, by decide +kernel, primeTable_smallPrimes.ascending,
    by decide +kernel, by decide +kernel⟩

/-! ### Trial division (42_bignum R160, R161) -/

/-- P of 42_bignum R160: the primes below 10000 that properly divide `n`. -/
def ProperSmallFactor (n p : Nat) : Prop := p.Prime ∧ p < 10000 ∧ p < n ∧ p ∣ n

theorem mem_smallPrimes_and_test_iff {n p : Nat} :
    (p ∈ smallPrimes ∧ (decide (p < n) && decide (n % p = 0)) = true) ↔ ProperSmallFactor n p := by
  rw [primeTable_smallPrimes.mem_iff, Bool.and_eq_true, decide_eq_true_iff, decide_eq_true_iff,
    ← Nat.dvd_iff_mod_eq_zero, ProperSmallFactor, and_assoc]

theorem smallFactor?_eq_none_iff {n : Nat} :
    smallFactor? n = none ↔ ∀ p, ¬ ProperSmallFactor n p := by
  rw [smallFactor?, List.find?_eq_none]
  simp only [← mem_smallPrimes_and_test_iff, not_and]

theorem properSmallFactor_of_smallFactor? {n p : Nat} (h : smallFactor? n = some p) :
    ProperSmallFactor n p :=
  have htest := List.find?_some (p := fun p => decide (p < n) && decide (n % p = 0)) h
  mem_smallPrimes_and_test_iff.mp ⟨List.mem_of_find?_eq_some h, htest⟩

/-- The table ascends, so that the first hit is the least. -/
theorem smallFactor?_le {n p q : Nat} (h : smallFactor? n = some p) (hq : ProperSmallFactor n q) :
    p ≤ q := by
  obtain ⟨hmem, htest⟩ := mem_smallPrimes_and_test_iff.mpr hq
  obtain ⟨-, before, after, hsplit, hfail⟩ := List.find?_eq_some_iff_append.mp h
  have hasc := primeTable_smallPrimes.ascending
  rw [hsplit] at hmem hasc
  obtain ⟨-, hhead, -⟩ := List.pairwise_append.mp hasc
  obtain hbefore | rfl | hafter := by simpa using hmem
  · have hnot := hfail q hbefore
    rw [htest] at hnot
    cases hnot
  · exact Nat.le_refl q
  · exact Nat.le_of_lt (List.rel_of_pairwise_cons hhead hafter)

theorem smallFactor?_eq_some_of_least {n p : Nat} (hp : ProperSmallFactor n p)
    (hleast : ∀ q, ProperSmallFactor n q → p ≤ q) : smallFactor? n = some p := by
  cases h : smallFactor? n with
  | none => exact absurd hp (smallFactor?_eq_none_iff.mp h p)
  | some q =>
    have hle := hleast q (properSmallFactor_of_smallFactor? h)
    rw [Nat.le_antisymm hle (smallFactor?_le h hp)]

theorem exec_bnTrialdiv_small {s : State} (h : s.bnm.toNat < 2) :
    exec .bnTrialdiv s = .next (finishOk false (writeBnr 0 s)) :=
  execBnTrialdiv_small s h

theorem exec_bnTrialdiv_pass {s : State} (h : 2 ≤ s.bnm.toNat)
    (hp : smallFactor? s.bnm.toNat = none) :
    exec .bnTrialdiv s = .next (finishOk true (writeBnr 0 s)) :=
  execBnTrialdiv_none s (Nat.not_lt.mpr h) hp

theorem exec_bnTrialdiv_factor {s : State} {p : Nat} (h : 2 ≤ s.bnm.toNat)
    (hp : smallFactor? s.bnm.toNat = some p) :
    exec .bnTrialdiv s = .next (finishOk false (writeBnr p s)) :=
  execBnTrialdiv_some s p (Nat.not_lt.mpr h) hp

/-- Everything BN_TRIALDIV can do: it stores a number below 10000, and passes the numbers from 2 on
without a proper small factor. -/
theorem bnTrialdiv_cases (s : State) : ∃ r b,
    exec .bnTrialdiv s = .next (finishOk r (writeBnr b s)) ∧ b < 10000 ∧
    (r = true ↔ 2 ≤ s.bnm.toNat ∧ ∀ p, ¬ ProperSmallFactor s.bnm.toNat p) := by
  by_cases h : s.bnm.toNat < 2
  · exact ⟨false, 0, exec_bnTrialdiv_small h, by decide, by simp [h]⟩
  have h2 : 2 ≤ s.bnm.toNat := Nat.not_lt.mp h
  cases hp : smallFactor? s.bnm.toNat with
  | none =>
    exact ⟨true, 0, exec_bnTrialdiv_pass h2 hp, by decide,
      by simpa [h2] using smallFactor?_eq_none_iff.mp hp⟩
  | some p =>
    have hfac := properSmallFactor_of_smallFactor? hp
    have ⟨_, hlt, _⟩ := hfac
    exact ⟨false, p, exec_bnTrialdiv_factor h2 hp, hlt, by simpa [h2] using ⟨p, hfac⟩⟩

/-- Settles O58: the three cases of `smallFactor?`. -/
theorem trialDivisionReportsTheLeastFactor : Obligations.TrialDivisionReportsTheLeastFactor := by
  refine ⟨commandWord_of_encode rfl rfl, fun s h => ?_, fun s h2 hnone => ?_,
    fun s p h2 hprime hsmall hlt hdvd hleast => ?_⟩
  · exact ⟨_, exec_bnTrialdiv_small h, writeBnr_toNat_small s (by decide),
      finishOk_writeBnr_frame false 0 s⟩
  · have hp : smallFactor? s.bnm.toNat = none := smallFactor?_eq_none_iff.mpr
      fun p ⟨hprime, hsmall, hlt, hdvd⟩ => hnone p hprime hsmall hlt hdvd
    exact ⟨_, exec_bnTrialdiv_pass h2 hp, writeBnr_toNat_small s (by decide),
      finishOk_writeBnr_frame true 0 s⟩
  · have hp : smallFactor? s.bnm.toNat = some p :=
      smallFactor?_eq_some_of_least ⟨hprime, hsmall, hlt, hdvd⟩
        fun q ⟨hq, hqs, hqlt, hqd⟩ => hleast q hq hqs hqlt hqd
    exact ⟨_, exec_bnTrialdiv_factor h2 hp, writeBnr_toNat_small s hsmall,
      finishOk_writeBnr_frame false p s⟩

/-- 10007 is the least prime from 10000 on. -/
theorem le_of_prime_of_le {p : Nat} (hp : p.Prime) (h : 10000 ≤ p) : 10007 ≤ p := by
  by_contra hlt
  have hlt' : p < 10007 := Nat.not_le.mp hlt
  interval_cases p <;> norm_num at hp

/-- A composite that passes has no prime factor below 10007. -/
theorem le_factor_of_pass {n p : Nat} (h2 : 2 ≤ n) (hpass : ∀ p, ¬ ProperSmallFactor n p)
    (hn : ¬ n.Prime) (hp : p.Prime) (hdvd : p ∣ n) : 10007 ≤ p := by
  have hne : p ≠ n := fun heq => hn (heq ▸ hp)
  have hle : p ≤ n := Nat.le_of_dvd (by omega) hdvd
  refine le_of_prime_of_le hp (Nat.not_lt.mp fun hsmall => ?_)
  exact hpass p ⟨hp, hsmall, by omega, hdvd⟩

theorem pass_iff_prime {n : Nat} (h2 : 2 ≤ n) (hn : n < 100140049) :
    (∀ p, ¬ ProperSmallFactor n p) ↔ n.Prime := by
  constructor
  · intro hpass
    by_contra hprime
    have hfac : 10007 ≤ n.minFac :=
      le_factor_of_pass h2 hpass hprime (Nat.minFac_prime (by omega)) n.minFac_dvd
    have hsq : n.minFac ^ 2 ≤ n := Nat.minFac_sq_le_self (by omega) hprime
    have hbound : 10007 ^ 2 ≤ n.minFac ^ 2 := Nat.pow_le_pow_left hfac 2
    omega
  · rintro hprime p ⟨hp, -, hlt, hdvd⟩
    exact Nat.ne_of_lt hlt ((Nat.prime_dvd_prime_iff_eq hp hprime).mp hdvd)

/-- Settles O59: `pass_iff_prime` and `le_factor_of_pass`. -/
theorem trialDivisionDecidesSmallPrimality : Obligations.TrialDivisionDecidesSmallPrimality := by
  refine ⟨fun s h2 hn => ?_, fun s t ht hres hprime p hp hdvd => ?_⟩
  all_goals obtain ⟨r, b, hexec, -, hr⟩ := bnTrialdiv_cases s
  · exact ⟨_, hexec, hr.trans ((and_iff_right h2).trans (pass_iff_prime h2 hn))⟩
  · obtain rfl := Host.Outcome.next.inj (hexec.symm.trans ht)
    obtain ⟨h2, hpass⟩ := hr.mp hres
    exact le_factor_of_pass h2 hpass hprime hp hdvd

/-- An error of any command keeps BNR. -/
theorem bnr_of_err {i : Instr} {s t : State} (ht : exec i s = .next t) (herr : t.err = true) :
    t.bnr = s.bnr := by
  obtain ⟨u, hu, ⟨c, -, hdata⟩ | ⟨r, ⟨-, hok, -⟩, -⟩⟩ := exec_completes i s
  all_goals obtain rfl : u = t := Host.Outcome.next.inj (hu.symm.trans ht)
  · obtain ⟨-, -, -, -, -, -, -, -, -, -, -, -, hbnr⟩ := hdata
    exact hbnr
  · exact absurd (hok.symm.trans herr) (by decide)

/-- Settles O51: what a success of each command says, and `bnr_of_err`. -/
theorem bignumResultsAreInRange : Obligations.BignumResultsAreInRange := by
  refine ⟨fun s t ht herr => ?_, fun s t ht herr => ?_, fun s t ht => ?_,
    fun _ _ _ ht herr => bnr_of_err ht herr⟩
  · obtain ⟨hm, hpow⟩ := bnModexp_success ht herr
    rw [hpow]
    exact Nat.mod_lt _ (Nat.pos_of_ne_zero hm)
  · obtain ⟨hlt, -⟩ := bnModinv_success ht herr
    exact hlt
  · obtain ⟨r, b, hexec, hb, -⟩ := bnTrialdiv_cases s
    obtain rfl := Host.Outcome.next.inj (hexec.symm.trans ht)
    have hbnr : (finishOk r (writeBnr b s)).bnr.toNat = b := writeBnr_toNat_small s hb
    rw [hbnr]
    exact hb

/-! ### The decomposition n − 1 = 2^s · d (42_bignum R156) -/

theorem two_pow_mul_odd_unique {k k' d d' : Nat} (hd : d % 2 = 1) (hd' : d' % 2 = 1)
    (h : 2 ^ k * d = 2 ^ k' * d') : (k, d) = (k', d') := by
  induction k generalizing k' with
  | zero =>
    cases k' with
    | zero => simpa using h
    | succ j => rw [pow_zero, one_mul, pow_succ', mul_assoc] at h; omega
  | succ i ih =>
    cases k' with
    | zero => rw [pow_zero, one_mul, pow_succ', mul_assoc] at h; omega
    | succ j =>
      rw [pow_succ', pow_succ', mul_assoc, mul_assoc] at h
      obtain ⟨rfl, rfl⟩ := Prod.mk.inj (ih (Nat.eq_of_mul_eq_mul_left (by decide) h))
      rfl

theorem decomposition_unique {n k d : Nat} (hn : 2 ≤ n) (h : n - 1 = 2 ^ k * d)
    (hd : d % 2 = 1) : (k, d) = decomposition n := by
  obtain ⟨heq, hodd⟩ := decomposition_spec n hn
  exact two_pow_mul_odd_unique hd hodd (h.symm.trans heq)

/-- For odd `n` the even `n − 1` has a factor 2. -/
theorem one_le_decomposition_fst {n : Nat} (hn : 2 ≤ n) (hodd : n % 2 = 1) :
    1 ≤ (decomposition n).1 := by
  obtain ⟨heq, hd⟩ := decomposition_spec n hn
  refine Nat.pos_of_ne_zero fun hzero => ?_
  rw [hzero, pow_zero, one_mul] at heq
  omega

/-- Settles O54: existence by the engine's own pair; the examples by uniqueness. -/
theorem oddPartDecompositionIsUnique : Obligations.OddPartDecompositionIsUnique := by
  refine ⟨fun n hn hodd => ?_, ?_, ?_⟩
  · have h2 : 2 ≤ n := by omega
    obtain ⟨heq, hd⟩ := decomposition_spec n h2
    exact ⟨heq, hd, one_le_decomposition_fst h2 hodd, fun k d => decomposition_unique h2⟩
  · exact (decomposition_unique (by decide) rfl rfl).symm
  · exact (decomposition_unique (by decide) rfl rfl).symm

/-! ### The Miller–Rabin round (42_bignum R157) -/

/-- a^d is 1 or a later square of it, short of a^(n−1), is −1 modulo n = 2^k · d + 1 (42_bignum
R157). -/
def StrongProbablePrime (n a k d : Nat) : Prop :=
  a ^ d % n = 1 ∨ ∃ r, r < k ∧ a ^ (2 ^ r * d) % n = n - 1

/-- The first test of the round is the power at r = 0, and the squarings are those from r = 1 on. -/
theorem roundPasses_iff {n a k d : Nat} (h : decomposition n = (k, d)) (hk : 1 ≤ k) :
    roundPasses n a = true ↔ StrongProbablePrime n a k d := by
  have hpow (r : Nat) : (a ^ d % n) ^ 2 ^ r % n = a ^ (2 ^ r * d) % n := by
    rw [← Nat.pow_mod, ← pow_mul, Nat.mul_comm]
  simp only [roundPasses, h, powMod_eq, Bool.or_eq_true, decide_eq_true_eq, squaringsHit_iff, hpow,
    StrongProbablePrime, or_assoc]
  refine or_congr_right ⟨?_, ?_⟩
  · rintro (h0 | ⟨r, -, hr, hhit⟩)
    · exact ⟨0, hk, by rwa [pow_zero, one_mul]⟩
    · exact ⟨r, by omega, hhit⟩
  · rintro ⟨r, hr, hhit⟩
    obtain rfl | hpos := Nat.eq_zero_or_pos r
    · rw [pow_zero, one_mul] at hhit
      exact .inl hhit
    · exact .inr ⟨r, hpos, by omega, hhit⟩

theorem roundOperandsLegal_iff {n a : Nat} : roundOperandsLegal n a = true ↔
    5 ≤ n ∧ n % 2 = 1 ∧ 2 ≤ a ∧ a ≤ n - 2 := by
  simp [roundOperandsLegal, and_assoc]

theorem exec_bnMrRound_legal {s : State} (h : 5 ≤ s.bnm.toNat ∧ s.bnm.toNat % 2 = 1 ∧
    2 ≤ s.bna.toNat ∧ s.bna.toNat ≤ s.bnm.toNat - 2) :
    exec .bnMrRound s = .next (finishOk (roundPasses s.bnm.toNat s.bna.toNat) s) :=
  execBnMrRound_ok s (roundOperandsLegal_iff.mpr h)

theorem exec_bnMrRound_illegal {s : State} (h : ¬ (5 ≤ s.bnm.toNat ∧ s.bnm.toNat % 2 = 1 ∧
    2 ≤ s.bna.toNat ∧ s.bna.toNat ≤ s.bnm.toNat - 2)) :
    exec .bnMrRound s = .next (finishError .invalidParam s) :=
  execBnMrRound_error s (Bool.eq_false_iff.mpr (mt roundOperandsLegal_iff.mp h))

/-- Settles O55: the operand check, and `roundPasses_iff` at the only decomposition. -/
theorem millerRabinRoundDecides : Obligations.MillerRabinRoundDecides := by
  refine ⟨commandWord_of_encode rfl rfl, fun s h => ?_, fun s h5 hodd ha hle => ?_⟩
  · exact ⟨_, exec_bnMrRound_illegal h, completedErr_finishError .invalidParam s⟩
  · refine ⟨_, exec_bnMrRound_legal ⟨h5, hodd, ha, hle⟩, by simp [CompletedOk, SameRest],
      by simp [SameData], fun k d heq hd => ?_⟩
    have h2 : 2 ≤ s.bnm.toNat := by omega
    have hkd := (decomposition_unique h2 heq hd).symm
    have hk : 1 ≤ k := by simpa [hkd] using one_le_decomposition_fst h2 hodd
    exact roundPasses_iff hkd hk

/-- Without zero divisors, 1 has no other square roots than 1 and −1. -/
theorem eq_one_or_neg_one_of_pow_two_pow {R : Type*} [CommRing R] [NoZeroDivisors R] (x : R)
    (k : Nat) (h : x ^ 2 ^ k = 1) : x = 1 ∨ ∃ r, r < k ∧ x ^ 2 ^ r = -1 := by
  induction k with
  | zero => exact .inl (by simpa using h)
  | succ k ih =>
    rw [pow_succ, pow_mul, sq_eq_one_iff] at h
    obtain hone | hneg := h
    · exact (ih hone).imp_right fun ⟨r, hr, hx⟩ => ⟨r, by omega, hx⟩
    · exact .inr ⟨k, by omega, hneg⟩

/-- A prime `n` passes every round: by Fermat a^(n−1) = 1 modulo n. -/
theorem strongProbablePrime_of_prime {n a k d : Nat} (hn : n.Prime) (ha : 1 ≤ a) (hlt : a < n)
    (h : n - 1 = 2 ^ k * d) : StrongProbablePrime n a k d := by
  have : Fact n.Prime := ⟨hn⟩
  have hne : (a : ZMod n) ≠ 0 := fun hzero =>
    Nat.not_dvd_of_pos_of_lt ha hlt ((ZMod.natCast_eq_zero_iff a n).mp hzero)
  have hfermat : ((a : ZMod n) ^ d) ^ 2 ^ k = 1 := by
    rw [← pow_mul, Nat.mul_comm, ← h, ZMod.pow_card_sub_one_eq_one hne]
  have hmod (x y : Nat) (hy : y < n) (hxy : (x : ZMod n) = y) : x % n = y :=
    ((ZMod.natCast_eq_natCast_iff' x y n).mp hxy).trans (Nat.mod_eq_of_lt hy)
  have hminus : ((n - 1 : Nat) : ZMod n) = -1 := by
    rw [Nat.cast_sub hn.one_le, ZMod.natCast_self, Nat.cast_one, zero_sub]
  obtain hone | ⟨r, hr, hneg⟩ := eq_one_or_neg_one_of_pow_two_pow _ k hfermat
  · exact .inl (hmod _ 1 hn.one_lt (by simpa using hone))
  · refine .inr ⟨r, hr, hmod _ (n - 1) (Nat.sub_lt hn.pos Nat.one_pos) ?_⟩
    rw [hminus, Nat.cast_pow, Nat.mul_comm, pow_mul, hneg]

/-- Settles O56: `strongProbablePrime_of_prime` at the engine's decomposition. -/
theorem millerRabinPassesEveryPrime : Obligations.MillerRabinPassesEveryPrime := by
  intro s hprime h5 ha hle
  have h2 : 2 ≤ s.bnm.toNat := hprime.two_le
  have hodd : s.bnm.toNat % 2 = 1 := hprime.eq_two_or_odd.resolve_left (by omega)
  obtain ⟨heq, -⟩ := decomposition_spec _ h2
  refine ⟨_, exec_bnMrRound_legal ⟨h5, hodd, ha, hle⟩, ?_, rfl⟩
  exact (roundPasses_iff rfl (one_le_decomposition_fst h2 hodd)).mpr
    (strongProbablePrime_of_prime hprime (by omega) (by omega) heq)

/-! ### RSA on the engine (42_bignum R162) -/

theorem pow_modEq_self_of_prime {p x : Nat} (m : Nat) (hp : p.Prime) (hx : 1 ≤ x)
    (hdvd : p - 1 ∣ x - 1) : m ^ x ≡ m [MOD p] := by
  rw [← Int.natCast_modEq_iff, Nat.cast_pow]
  simpa using Int.ModEq.pow_eq_pow hp hdvd hx Nat.one_pos (m : Int)

/-- Distinct primes are not both 2. -/
theorem pred_mul_pred_ne_one {p q : Nat} (hpq : p ≠ q) :
    (p - 1) * (q - 1) ≠ 1 := by
  intro h
  obtain ⟨hp1, hq1⟩ := mul_eq_one.mp h
  omega

/-- Exponents that are inverse modulo (p − 1)(q − 1) undo each other modulo p q. -/
theorem pow_mul_mod_eq_self {p q m e d : Nat} (hp : p.Prime) (hq : q.Prime) (hpq : p ≠ q)
    (hm : m < p * q) (hinv : e * d % ((p - 1) * (q - 1)) = 1 % ((p - 1) * (q - 1))) :
    m ^ (e * d) % (p * q) = m := by
  have hpos : 1 ≤ e * d := by
    refine Nat.pos_of_ne_zero fun hzero => pred_mul_pred_ne_one hpq ?_
    rw [hzero, Nat.zero_mod] at hinv
    exact Nat.dvd_one.mp (Nat.dvd_of_mod_eq_zero hinv.symm)
  have hdvd : (p - 1) * (q - 1) ∣ e * d - 1 := (Nat.modEq_iff_dvd' hpos).mp hinv.symm
  have hmodp : m ^ (e * d) ≡ m [MOD p] :=
    pow_modEq_self_of_prime m hp hpos ((Nat.dvd_mul_right _ _).trans hdvd)
  have hmodq : m ^ (e * d) ≡ m [MOD q] :=
    pow_modEq_self_of_prime m hq hpos ((Nat.dvd_mul_left _ _).trans hdvd)
  have hmod : m ^ (e * d) ≡ m [MOD p * q] :=
    (Nat.modEq_and_modEq_iff_modEq_mul ((Nat.coprime_primes hp hq).mpr hpq)).mp ⟨hmodp, hmodq⟩
  exact Nat.mod_eq_of_modEq hmod hm

/-- Settles O60: two powers by `bnModexp_spec`, undone by `pow_mul_mod_eq_self`. -/
theorem rsaRoundTrip : Obligations.RsaRoundTrip := by
  intro p q m s k hp hq hpq hm hfits hphi hk herr
  obtain ⟨-, hinv⟩ := bnModinv_success hk herr
  rw [hphi] at hinv
  have hn : (BitVec.ofNat Config.bnWidth (p * q)).toNat = p * q := toNat_bnInt hfits
  have hmsg : (BitVec.ofNat Config.bnWidth m).toNat = m := toNat_bnInt (Nat.lt_trans hm hfits)
  have hne : (BitVec.ofNat Config.bnWidth (p * q)).toNat ≠ 0 := by omega
  obtain ⟨c, hc, hcipher, ⟨-, -, -, -, -, -, hbnm⟩, -⟩ := bnModexp_spec
    (s := { k with bna := BitVec.ofNat Config.bnWidth m, bnb := s.bna,
                   bnm := BitVec.ofNat Config.bnWidth (p * q) }) hne
  have hcn : c.bnm.toNat = p * q := (congrArg BitVec.toNat hbnm).trans hn
  obtain ⟨d, hd, hplain, -, -, -, -, hok, -⟩ := bnModexp_spec
    (s := { c with bna := c.bnr, bnb := k.bnr }) (ne_of_eq_of_ne hcn (hn ▸ hne))
  refine ⟨c, d, hc, hd, ?_, hok⟩
  dsimp only at hcipher hplain
  calc d.bnr.toNat = (m ^ s.bna.toNat % (p * q)) ^ k.bnr.toNat % (p * q) := by
        rw [hplain, hcipher, hcn, hn, hmsg]
    _ = m ^ (s.bna.toNat * k.bnr.toNat) % (p * q) := by rw [← Nat.pow_mod, ← pow_mul]
    _ = m := pow_mul_mod_eq_self hp hq hpq hm hinv

end Sys2Proof.Proofs

/-! PROOFS. The family of 60_exceptions: how a command is accepted, which commands raise no error, and
what an error completion does. -/

namespace Sys2Proof.Proofs

open Sys2Proof Sys2Proof.Machine Sys2Proof.Laws

/-! ### Error completions (60_exceptions R183) -/

/-- Of the two ways in which a command ends, only the error leaves ERR = 1. -/
theorem completedErr_of_completes {i : Instr} {s t : State} (h : Completes i s t)
    (herr : t.err = true) : ∃ c : ErrCode, CompletedErr c.code s t ∧ SameData s t := by
  obtain hfail | ⟨r, ⟨-, hok, -⟩, -⟩ := h
  · exact hfail
  · simp [hok] at herr

/-- A completion step that leaves ERR = 1 is an error completion with one of the codes of R180, of an
Illegal word or of the command that LCMD holds. -/
theorem completeStep_completedErr {s t : State} (h : completeStep s = .next t)
    (herr : t.err = true) : ∃ c : ErrCode, CompletedErr c.code s t ∧ SameData s t := by
  obtain hillegal | ⟨i, -, hc⟩ := completeStep_completes h
  · exact hillegal
  · exact completedErr_of_completes hc herr

/-- Settles O20: `completeStep_completedErr`, with ERRCODE as the code it stored. -/
theorem errorsArePrecise : Obligations.ErrorsArePrecise := by
  intro s t h herr
  obtain ⟨c, hc, hdata⟩ := completeStep_completedErr h herr
  have ⟨_, _, hcode, _⟩ := hc
  rw [hcode]
  exact ⟨hdata, errCode_code_cases c, hc⟩

/-! ### Command acceptance (60_exceptions R185) -/

theorem transfer_write_cmd (s : State) (v : Word) :
    transfer (.writeWord 0x0008#13 v) s = .next (writeReg .cmd v s) :=
  transfer_write_regAt v s rfl rfl

/-- Settles O18: a write to CMD asks only whether the block is busy; the word is decoded at its
completion step. -/
theorem commandAcceptance : Obligations.CommandAcceptance := by
  refine ⟨fun s v hidle => ?accepted, fun s v e he => ?illegal, fun s v hbusy => ?dropped⟩
  case accepted => rw [transfer_write_cmd, writeReg_idle_cmd v hidle, accept]
  case illegal => exact ⟨_, completeStep_error (s := accept v s) he, rfl, rfl⟩
  case dropped => rw [transfer_write_cmd, writeReg_busy_overrun v hbusy (.inl rfl), setOverrun]

/-! ### Commands that raise no error (60_exceptions R181) -/

/-- The cipher and hash commands and BN_TRIALDIV refuse no operands: each ends in `finishOk`. -/
theorem exec_finishOk {i : Instr} (s : State) (hwf : i.wellFormed = true) (hexp : i ≠ .bnModexp)
    (hinv : i ≠ .bnModinv) (hmr : i ≠ .bnMrRound) :
    ∃ r u, exec i s = .next (finishOk r u) := by
  cases i with
  | cipherEnc => exact ⟨_, _, exec_cipherEnc s⟩
  | hashInit => exact ⟨_, _, exec_hashInit s⟩
  | hashCompress => exact ⟨_, _, exec_hashCompress s⟩
  | hashBlock => exact ⟨_, _, exec_hashBlock s⟩
  | hashFinal nb => exact ⟨_, _, exec_hashFinal (of_decide_eq_true hwf) s⟩
  | bnModexp => exact absurd rfl hexp
  | bnModinv => exact absurd rfl hinv
  | bnMrRound => exact absurd rfl hmr
  | bnTrialdiv =>
    obtain ⟨r, b, h, -⟩ := bnTrialdiv_cases s
    exact ⟨r, _, h⟩

/-- Settles O21: `finishOk` clears ERR and ERRCODE. -/
theorem sixCommandsNeverFail : Obligations.SixCommandsNeverFail := by
  intro i s hwf hexp hinv hmr
  obtain ⟨r, u, h⟩ := exec_finishOk s hwf hexp hinv hmr
  exact ⟨_, h, finishOk_err u r, finishOk_errcode u r⟩

end Sys2Proof.Proofs

/-! PROOFS. The family of 70_reset: a command in progress completes within its schedule, and what a
reset leaves in the state and in every register of the window. -/

namespace Sys2Proof.Proofs

open Sys2Proof Sys2Proof.Machine Sys2Proof.Laws

/-! ### A command in progress completes (70_reset R225) -/

/-- One more step after `k` of them. -/
theorem runSteps_step {k : Nat} {s u t : State} (hrun : runSteps k s = .next u)
    (h : step u = .next t) : runSteps (k + 1) s = .next t := by
  induction k generalizing s with
  | zero =>
    obtain rfl : s = u := Host.Outcome.next.inj hrun
    exact runSteps_succ 0 h
  | succ k ih =>
    cases hs : step s with
    | next v => exact (runSteps_succ (k + 1) hs).trans (ih ((runSteps_succ k hs).symm.trans hrun))
    | fault f => simp [runSteps, hs] at hrun
    | refused r => simp [runSteps, hs] at hrun

/-- With nothing scheduled a busy engine completes: the model's form of weak fairness (log
entry 2). -/
theorem completesNext_of_schedule_nil {u : State} (hb : u.busy = true) (hs : u.schedule = []) :
    CompletesNext u := by
  obtain ⟨t, ht, -⟩ := completeStep_spec u
  obtain ⟨hidle, -⟩ := completeStep_frame ht
  have hstep : step u = .next t := by rw [step_nil hs, engineStep_busy hb, ht]
  exact ⟨t, t, hstep, hidle, ht, rfl⟩

/-- The status after the step that completes a command (60_exceptions R182 to R184). -/
theorem step_of_completesNext {u : State} (h : CompletesNext u) :
    ∃ v, step u = .next v ∧ v.busy = false ∧ v.done = true ∧ v.doneIp = true := by
  obtain ⟨v, t, hstep, hidle, ht, hsame⟩ := h
  obtain ⟨-, hdone, hip, -⟩ := completeStep_frame ht
  exact ⟨v, hstep, hidle, (congrArg ArchState.done hsame).symm.trans hdone,
    (congrArg ArchState.doneIp hsame).symm.trans hip⟩

/-- A schedule without a reset and without a refused transfer is harmless. -/
theorem harmless_of_noBusFault {s : State} (hf : NoBusFault s) (hr : ∀ e ∈ s.schedule, e ≠ .reset) :
    ∀ e ∈ s.schedule, Harmless e := by
  intro e he
  cases e with
  | host tr => exact .inr ⟨tr, rfl, hf _ he tr rfl⟩
  | engine => exact .inl rfl
  | reset => exact absurd rfl (hr _ he)

/-- Settles O30: the command stays in progress until an event completes it or until nothing is
scheduled, and then the next step is its completion. -/
theorem everyCommandCompletes : Obligations.EveryCommandCompletes := by
  intro s hb hf hr
  obtain ⟨k, u, hk, hrun, hsched, ⟨hbusy, -⟩, hend⟩ :=
    runSteps_inProgress s.schedule [] s hb (List.append_nil _).symm (harmless_of_noBusFault hf hr)
  have hcomplete : CompletesNext u := by
    obtain rfl | hnext := hend
    · exact completesNext_of_schedule_nil hbusy (by simpa using hsched)
    · exact hnext
  obtain ⟨v, hstep, hv⟩ := step_of_completesNext hcomplete
  exact ⟨k + 1, v, Nat.succ_pos k, Nat.succ_le_succ hk, runSteps_step hrun hstep, hv⟩

/-! ### What a reset leaves (70_reset R210) -/

theorem step_reset {s : State} {rest : List Event} (h : s.schedule = .reset :: rest) :
    step s = .next (resetBlock { s with schedule := rest }) :=
  step_cons h

theorem wordOf_zero {w : Nat} (j : Nat) : wordOf (0#w) j = 0#32 :=
  BitVec.extractLsb'_zero

theorem bnWord_zero (j : Fin 256) : bnWord 0#Config.bnWidth j = 0#32 := by
  unfold bnWord
  split
  · exact wordOf_zero j.val
  · rfl

theorem resetBlock_key_zero (s : State) (j : Fin 8) : (resetBlock s).key[j] = 0#32 := by
  have hkey : ∀ j : Fin 8, State.reset.key[j] = 0#32 := by decide
  exact hkey j

/-- After a reset every register but the two constants holds 0: the groups and the bignums word by
word, STATUS and the interrupt registers as words of cleared bits. -/
theorem regValue_resetBlock {r : Reg} (hid : r ≠ .id) (hfeatures : r ≠ .features) (s : State) :
    regValue r (resetBlock s) = 0#32 := by
  cases r with
  | id => exact absurd rfl hid
  | features => exact absurd rfl hfeatures
  | key j => exact resetBlock_key_zero s j
  | hm j | hh j | hs j | hl j => exact wordOf_zero j.val
  | bna j | bnb j | bnm j | bnr j => exact bnWord_zero j
  | status => exact (by decide : statusWord State.reset = 0#32)
  | irqEn => exact irqEnWord_eq (resetBlock s)
  | irqPend => exact irqPendWord_eq (resetBlock s)
  | cmd | blkLo | blkHi | ctLo | ctHi | reserved => rfl

/-- ID and FEATURES stand in the first two words of the window, and nowhere else (10_state R22). -/
theorem regAt_ne_constant {off : Offset} (ha : off.toNat % 4 = 0) (h8 : 8 ≤ off.toNat) :
    regAt off ≠ .id ∧ regAt off ≠ .features := by
  obtain ⟨-, hreg⟩ | ⟨-, hoff⟩ := regAt_cases ha
  · simp [hreg]
  · constructor
    all_goals
      intro hreg
      rw [hreg] at hoff
      obtain rfl := Option.some.inj hoff
      exact absurd h8 (by decide)

theorem readData_resetBlock {off : Offset} (s : State) (ha : off.toNat % 4 = 0)
    (h8 : 8 ≤ off.toNat) : readData off (resetBlock s) = 0#32 := by
  obtain ⟨hid, hfeatures⟩ := regAt_ne_constant ha h8
  rw [readData_idle off _ (resetBlock_busy s), regValue_resetBlock hid hfeatures]

/-- Settles O31: the step is `resetBlock`, whose fields are the constants of R210. -/
theorem resetSetsTheWholeState : Obligations.ResetSetsTheWholeState := by
  intro s rest h
  have hbn : (0#Config.bnWidth).toNat = 0 := BitVec.toNat_zero
  exact ⟨_, step_reset h, resetBlock_key_zero _, rfl, rfl, rfl, rfl, rfl, rfl, rfl, rfl,
    hbn, hbn, hbn, hbn, rfl, rfl, rfl, rfl, rfl, rfl, rfl, rfl, rfl, rfl,
    readData_id _, readData_features _, fun _ => readData_resetBlock _⟩

end Sys2Proof.Proofs
